-- ==== Sys2Proof/Word.lean ====
section
/-! DEFINITION. The two kernels, their widths, and the names of the bit patterns the unit handles
(`00_scope.md` R2, R7, R9, R10). -/

namespace Sys2Proof

/-- A 32-bit pattern: a command word, an s2.30 value, a 32-bit integer (`00_scope.md` R9, R10). -/
abbrev Word := BitVec 32

/-- A 64-bit pattern: an operand port or a result (`10_state.md` R21). -/
abbrev Port := BitVec 64

/-- The two kernels: `k32` is 16.16, `k64` is 32.32 (`00_scope.md` R2). -/
inductive Kernel where
  | k32
  | k64
deriving DecidableEq, Repr

/-- `W`, the kernel's raw width (`00_scope.md` R2, R7). -/
abbrev Kernel.width : Kernel → Nat
  | .k32 => 32
  | .k64 => 64

/-- `F`, the kernel's fraction-bit count (`00_scope.md` R2, R7). -/
abbrev Kernel.frac : Kernel → Nat
  | .k32 => 16
  | .k64 => 32

/-- A raw fixed-point value of kernel `k`: a `W`-bit pattern, standing for `toInt / 2^F`
(`00_scope.md` R10). The spec's `s_W` is `BitVec.toInt`, its `u_W` is `BitVec.toNat`, its `wrap_N` is
`BitVec.ofInt N` (R9). -/
abbrev Raw (k : Kernel) := BitVec k.width

end Sys2Proof
end

