-- ==== Sys2Proof/Syntax.lean ====
section
/-! DEFINITION. The instructions of the FPFU as data: one constructor for each row of
`opcode_table.json` (`30_encoding.md` R66, R68), with the free fields of its word. -/

namespace Sys2Proof

/-- The approximating tiers, which are also the slots of an evaluator (`00_scope.md` R3,
`10_state.md` R26): plain, fast, fastest. -/
inductive Slot where
  | p
  | f
  | ff
deriving DecidableEq, Repr

/-- The eight functions of the coefficient ROM, in the order of `10_state.md` R26. -/
inductive EvalFn where
  | sin
  | log
  | log2
  | exp2
  | atan
  | rcp
  | rsqrt
  | sqrt
deriving DecidableEq, Repr

/-- The fill of a right shift (`30_encoding.md` R64, `40_normalize.md` R101). -/
inductive ShiftMode where
  | logical
  | arithmetic
deriving DecidableEq, Repr

/-- The constants in kernel format, ids 0 to 14 in this order (`10_state.md` R27). -/
inductive KConst where
  | zero
  | one
  | two
  | three
  | four
  | half
  | negOne
  | pi
  | pi2
  | piHalf
  | e
  | minVal
  | maxVal
  | rcpLn2
  | ln2
deriving DecidableEq, Repr

/-- The constants in s2.30 format, ids 16 to 19 in this order (`10_state.md` R28). -/
inductive S230Const where
  | sqrt2
  | halfSqrt2
  | rcpHalfPi
  | oneS230
deriving DecidableEq, Repr

/-- What `CONST` selects: a constant of either kind (`30_encoding.md` R65). -/
inductive ConstName where
  | kernel (c : KConst)
  | s230 (c : S230Const)
deriving DecidableEq, Repr

/-- The instructions, in the order of `opcode_table.json` (`30_encoding.md` R66, R68). Operands come
with the command and are no part of the instruction (R67). -/
inductive Instr where
  /-- `CLZ`, `40_normalize.md` R105. -/
  | clz (k : Kernel)
  /-- `SHR.L`, `40_normalize.md` R106. -/
  | shrL (k : Kernel)
  /-- `SHR.A`, `40_normalize.md` R106. -/
  | shrA (k : Kernel)
  /-- `NORM`, `40_normalize.md` R107. -/
  | norm (k : Kernel)
  /-- `QMUL30`, `41_poly_lut.md` R125. -/
  | qmul30
  /-- `FMA30`, `41_poly_lut.md` R126. -/
  | fma30
  /-- `POLY.P`, `41_poly_lut.md` R129. -/
  | polyP (fn : EvalFn)
  /-- `POLY.F`, `41_poly_lut.md` R129. -/
  | polyF (fn : EvalFn)
  /-- `POLY.FF`, `41_poly_lut.md` R129. -/
  | polyFF (fn : EvalFn)
  /-- `LUTRD.P`, `41_poly_lut.md` R130. -/
  | lutrdP (fn : EvalFn)
  /-- `LUTRD.F`, `41_poly_lut.md` R130. -/
  | lutrdF (fn : EvalFn)
  /-- `LUTRD.FF`, `41_poly_lut.md` R130. -/
  | lutrdFF (fn : EvalFn)
  /-- `FROMINT`, `42_convert_arith.md` R142. -/
  | fromint (k : Kernel)
  /-- `FROMF32`, `42_convert_arith.md` R143. -/
  | fromf32 (k : Kernel)
  /-- `FROMF64`, `42_convert_arith.md` R144. -/
  | fromf64 (k : Kernel)
  /-- `TOINTF`, `42_convert_arith.md` R145. -/
  | tointf (k : Kernel)
  /-- `TOINTC`, `42_convert_arith.md` R146. -/
  | tointc (k : Kernel)
  /-- `TOINTR`, `42_convert_arith.md` R147. -/
  | tointr (k : Kernel)
  /-- `TOF32`, `42_convert_arith.md` R148. -/
  | tof32 (k : Kernel)
  /-- `TOF64`, `42_convert_arith.md` R149. -/
  | tof64 (k : Kernel)
  /-- `RATIO`, `42_convert_arith.md` R150. -/
  | ratio (k : Kernel)
  /-- `RATIO10`, `42_convert_arith.md` R151. -/
  | ratio10 (k : Kernel)
  /-- `RATIO100`, `42_convert_arith.md` R152. -/
  | ratio100 (k : Kernel)
  /-- `RATIO1000`, `42_convert_arith.md` R153. -/
  | ratio1000 (k : Kernel)
  /-- `WIDEN`, `42_convert_arith.md` R154. -/
  | widen
  /-- `NARROW`, `42_convert_arith.md` R155. -/
  | narrow
  /-- `CONST`, `42_convert_arith.md` R156. -/
  | const (k : Kernel) (id : ConstName)
  /-- `ADD`, `42_convert_arith.md` R157. -/
  | add (k : Kernel)
  /-- `SUB`, `42_convert_arith.md` R158. -/
  | sub (k : Kernel)
  /-- `NEG`, `42_convert_arith.md` R159. -/
  | neg (k : Kernel)
  /-- `MUL`, `42_convert_arith.md` R160. -/
  | mul (k : Kernel)
  /-- `MOD`, `42_convert_arith.md` R161. -/
  | mod (k : Kernel)
  /-- `CMPEQ`, `46_compare_round.md` R260. -/
  | cmpeq (k : Kernel)
  /-- `CMPNE`, `46_compare_round.md` R261. -/
  | cmpne (k : Kernel)
  /-- `CMPLT`, `46_compare_round.md` R262. -/
  | cmplt (k : Kernel)
  /-- `CMPLE`, `46_compare_round.md` R263. -/
  | cmple (k : Kernel)
  /-- `CMPGT`, `46_compare_round.md` R264. -/
  | cmpgt (k : Kernel)
  /-- `CMPGE`, `46_compare_round.md` R265. -/
  | cmpge (k : Kernel)
  /-- `MIN`, `46_compare_round.md` R266. -/
  | min (k : Kernel)
  /-- `MAX`, `46_compare_round.md` R267. -/
  | max (k : Kernel)
  /-- `CLAMP`, `46_compare_round.md` R268. -/
  | clamp (k : Kernel)
  /-- `LERP`, `46_compare_round.md` R269. -/
  | lerp (k : Kernel)
  /-- `FLOOR`, `46_compare_round.md` R270. -/
  | floor (k : Kernel)
  /-- `CEIL`, `46_compare_round.md` R271. -/
  | ceil (k : Kernel)
  /-- `ROUND`, `46_compare_round.md` R272. -/
  | round (k : Kernel)
  /-- `FRACT`, `46_compare_round.md` R273. -/
  | fract (k : Kernel)
  /-- `DIV.X`, `43_div_root_rcp.md` R183. -/
  | divX (k : Kernel)
  /-- `DIV.F`, `43_div_root_rcp.md` R184. -/
  | divF (k : Kernel)
  /-- `DIV.FF`, `43_div_root_rcp.md` R185. -/
  | divFF (k : Kernel)
  /-- `RCP.P`, `43_div_root_rcp.md` R187. -/
  | rcpP (k : Kernel)
  /-- `RCP.F`, `43_div_root_rcp.md` R188. -/
  | rcpF (k : Kernel)
  /-- `RCP.FF`, `43_div_root_rcp.md` R189. -/
  | rcpFF (k : Kernel)
  /-- `SQRT.X`, `43_div_root_rcp.md` R192. -/
  | sqrtX (k : Kernel)
  /-- `SQRT.P`, `43_div_root_rcp.md` R193. -/
  | sqrtP (k : Kernel)
  /-- `SQRT.F`, `43_div_root_rcp.md` R194. -/
  | sqrtF (k : Kernel)
  /-- `SQRT.FF`, `43_div_root_rcp.md` R195. -/
  | sqrtFF (k : Kernel)
  /-- `RSQRT.P`, `43_div_root_rcp.md` R197. -/
  | rsqrtP (k : Kernel)
  /-- `RSQRT.F`, `43_div_root_rcp.md` R198. -/
  | rsqrtF (k : Kernel)
  /-- `RSQRT.FF`, `43_div_root_rcp.md` R199. -/
  | rsqrtFF (k : Kernel)
  /-- `EXP2.P`, `44_exp_log_pow.md` R211. -/
  | exp2P (k : Kernel)
  /-- `EXP2.F`, `44_exp_log_pow.md` R212. -/
  | exp2F (k : Kernel)
  /-- `EXP2.FF`, `44_exp_log_pow.md` R213. -/
  | exp2FF (k : Kernel)
  /-- `EXP.P`, `44_exp_log_pow.md` R215. -/
  | expP (k : Kernel)
  /-- `EXP.F`, `44_exp_log_pow.md` R216. -/
  | expF (k : Kernel)
  /-- `EXP.FF`, `44_exp_log_pow.md` R217. -/
  | expFF (k : Kernel)
  /-- `LOG2.P`, `44_exp_log_pow.md` R219. -/
  | log2P (k : Kernel)
  /-- `LOG2.F`, `44_exp_log_pow.md` R220. -/
  | log2F (k : Kernel)
  /-- `LOG2.FF`, `44_exp_log_pow.md` R221. -/
  | log2FF (k : Kernel)
  /-- `LOG.P`, `44_exp_log_pow.md` R223. -/
  | logP (k : Kernel)
  /-- `LOG.F`, `44_exp_log_pow.md` R224. -/
  | logF (k : Kernel)
  /-- `LOG.FF`, `44_exp_log_pow.md` R225. -/
  | logFF (k : Kernel)
  /-- `POW.P`, `44_exp_log_pow.md` R227. -/
  | powP (k : Kernel)
  /-- `POW.F`, `44_exp_log_pow.md` R228. -/
  | powF (k : Kernel)
  /-- `POW.FF`, `44_exp_log_pow.md` R229. -/
  | powFF (k : Kernel)
  /-- `SIN.P`, `45_trig.md` R233. -/
  | sinP (k : Kernel)
  /-- `SIN.F`, `45_trig.md` R234. -/
  | sinF (k : Kernel)
  /-- `SIN.FF`, `45_trig.md` R235. -/
  | sinFF (k : Kernel)
  /-- `COS.P`, `45_trig.md` R237. -/
  | cosP (k : Kernel)
  /-- `COS.F`, `45_trig.md` R238. -/
  | cosF (k : Kernel)
  /-- `COS.FF`, `45_trig.md` R239. -/
  | cosFF (k : Kernel)
  /-- `TAN.P`, `45_trig.md` R241. -/
  | tanP (k : Kernel)
  /-- `TAN.F`, `45_trig.md` R242. -/
  | tanF (k : Kernel)
  /-- `TAN.FF`, `45_trig.md` R243. -/
  | tanFF (k : Kernel)
  /-- `ATAN2.P`, `45_trig.md` R246. -/
  | atan2P (k : Kernel)
  /-- `ATAN2.F`, `45_trig.md` R247. -/
  | atan2F (k : Kernel)
  /-- `ATAN2.FF`, `45_trig.md` R248. -/
  | atan2FF (k : Kernel)
  /-- `ATAN.P`, `45_trig.md` R250. -/
  | atanP (k : Kernel)
  /-- `ATAN.F`, `45_trig.md` R251. -/
  | atanF (k : Kernel)
  /-- `ATAN.FF`, `45_trig.md` R252. -/
  | atanFF (k : Kernel)
  /-- `ASIN.P`, `45_trig.md` R254. -/
  | asinP (k : Kernel)
  /-- `ASIN.F`, `45_trig.md` R255. -/
  | asinF (k : Kernel)
  /-- `ASIN.FF`, `45_trig.md` R256. -/
  | asinFF (k : Kernel)
  /-- `ACOS.P`, `45_trig.md` R257. -/
  | acosP (k : Kernel)
  /-- `ACOS.F`, `45_trig.md` R258. -/
  | acosF (k : Kernel)
  /-- `ACOS.FF`, `45_trig.md` R259. -/
  | acosFF (k : Kernel)
deriving DecidableEq, Repr

end Sys2Proof
end

