-- ==== Sys2Proof/WellFormed.lean ====
section
/-! DEFINITION. Which instructions a command word can say: the legality rules of `30_encoding.md`
that the constructors of `Instr` do not already enforce. -/

namespace Sys2Proof

/-- An s2.30 constant (ids 16 to 19) is selected with `K = 0` only; a kernel-format constant (ids 0 to
14) with either (`30_encoding.md` R62, R65, R69). -/
def ConstName.wf (k : Kernel) : ConstName → Bool
  | .kernel _ => true
  | .s230 _ => decide (k = .k32)

/-- The well-formed instructions: the ones some legal command word stands for (`30_encoding.md` R66,
R69). Every other rule of legality is enforced by the constructors: the tier, the mode and a fixed
`K` are part of the constructor, and `EvalFn` has the eight legal values of `SEL`. -/
def Instr.wf : Instr → Bool
  | .const k id => id.wf k
  | _ => true

end Sys2Proof
end

