-- ==== Sys2Proof/Decode.lean ====
section
/-! DEFINITION. The command word: the decoder, total and rejecting by name, and the encoder, both from
the layout and the opcode map of `30_encoding.md` R61 and R66. -/

namespace Sys2Proof

/-! ## Fields -/

/-- The fields of a command word (`30_encoding.md` R61). -/
structure Fields where
  op : BitVec 8
  k : BitVec 1
  tier : BitVec 2
  mode : BitVec 1
  sel : BitVec 5
  zero : BitVec 15
deriving DecidableEq, Repr

/-- The word cut into its fields: `OP` 7:0, `K` 8, `TIER` 10:9, `MODE` 11, `SEL` 16:12, `ZERO` 31:17
(`30_encoding.md` R61). -/
def fieldsOf (w : Word) : Fields where
  op := w.extractLsb' 0 8
  k := w.extractLsb' 8 1
  tier := w.extractLsb' 9 2
  mode := w.extractLsb' 11 1
  sel := w.extractLsb' 12 5
  zero := w.extractLsb' 17 15

/-- Why a word is illegal: the field that `30_encoding.md` R69 finds fault with, the first in the order
in which R67 checks them. -/
inductive Illegal where
  /-- `ZERO != 0`. -/
  | zeroField
  /-- `OP` is not in the table of R66. -/
  | unassignedOp
  /-- `K` has a value R66 does not list for the `OP`. -/
  | kField
  /-- `TIER` has a value R66 does not list for the `OP`. -/
  | tierField
  /-- `MODE` has a value R66 does not list for the `OP`. -/
  | modeField
  /-- `SEL` has a value R66 does not list for the `OP` (and the `K`). -/
  | selField
deriving DecidableEq, Repr

/-- The `K` bit: 0 is K32, 1 is K64 (`30_encoding.md` R62). -/
def Kernel.code : Kernel → BitVec 1
  | .k32 => 0
  | .k64 => 1

/-- The kernel a `K` bit selects (`30_encoding.md` R62). -/
def Fields.kernel (f : Fields) : Kernel := if f.k = 0 then .k32 else .k64

/-- `SEL` of a function (`30_encoding.md` R65). -/
def EvalFn.code : EvalFn → BitVec 5
  | .sin => 0
  | .log => 1
  | .log2 => 2
  | .exp2 => 3
  | .atan => 4
  | .rcp => 5
  | .rsqrt => 6
  | .sqrt => 7

/-- The function a `SEL` value names; 8 to 31 name none (`30_encoding.md` R65). -/
def evalFnOf (sel : BitVec 5) : Option EvalFn :=
  match sel.toNat with
  | 0 => some .sin
  | 1 => some .log
  | 2 => some .log2
  | 3 => some .exp2
  | 4 => some .atan
  | 5 => some .rcp
  | 6 => some .rsqrt
  | 7 => some .sqrt
  | _ => none

/-- The id of a constant (`10_state.md` R27, R28). -/
def ConstName.code : ConstName → BitVec 5
  | .kernel .zero => 0
  | .kernel .one => 1
  | .kernel .two => 2
  | .kernel .three => 3
  | .kernel .four => 4
  | .kernel .half => 5
  | .kernel .negOne => 6
  | .kernel .pi => 7
  | .kernel .pi2 => 8
  | .kernel .piHalf => 9
  | .kernel .e => 10
  | .kernel .minVal => 11
  | .kernel .maxVal => 12
  | .kernel .rcpLn2 => 13
  | .kernel .ln2 => 14
  | .s230 .sqrt2 => 16
  | .s230 .halfSqrt2 => 17
  | .s230 .rcpHalfPi => 18
  | .s230 .oneS230 => 19

/-- The constant an id names; 15 and 20 to 31 name none (`10_state.md` R28, `30_encoding.md` R65). -/
def constNameOf (sel : BitVec 5) : Option ConstName :=
  match sel.toNat with
  | 0 => some (.kernel .zero)
  | 1 => some (.kernel .one)
  | 2 => some (.kernel .two)
  | 3 => some (.kernel .three)
  | 4 => some (.kernel .four)
  | 5 => some (.kernel .half)
  | 6 => some (.kernel .negOne)
  | 7 => some (.kernel .pi)
  | 8 => some (.kernel .pi2)
  | 9 => some (.kernel .piHalf)
  | 10 => some (.kernel .e)
  | 11 => some (.kernel .minVal)
  | 12 => some (.kernel .maxVal)
  | 13 => some (.kernel .rcpLn2)
  | 14 => some (.kernel .ln2)
  | 16 => some (.s230 .sqrt2)
  | 17 => some (.s230 .halfSqrt2)
  | 18 => some (.s230 .rcpHalfPi)
  | 19 => some (.s230 .oneS230)
  | _ => none

/-! ## The decoder -/

/-- The last checks of an instruction that uses neither `MODE` nor `SEL`: both are 0
(`30_encoding.md` R64, R65). -/
def Fields.noModeNoSel (f : Fields) (i : Instr) : Except Illegal Instr :=
  if f.mode ≠ 0 then .error .modeField
  else if f.sel ≠ 0 then .error .selField
  else .ok i

/-- An instruction of either kernel without tiers (`30_encoding.md` R62, R63). -/
def Fields.plain (f : Fields) (build : Kernel → Instr) : Except Illegal Instr :=
  if f.tier ≠ 0 then .error .tierField else f.noModeNoSel (build f.kernel)

/-- An instruction that requires one value of `K` and has no tiers (`30_encoding.md` R62, R63). -/
def Fields.fixedKernel (f : Fields) (k : Kernel) (i : Instr) : Except Illegal Instr :=
  if f.k ≠ k.code then .error .kField
  else if f.tier ≠ 0 then .error .tierField
  else f.noModeNoSel i

/-- `SHR`: `MODE` 0 is `.L`, 1 is `.A` (`30_encoding.md` R64). -/
def Fields.shift (f : Fields) (mkL mkA : Kernel → Instr) : Except Illegal Instr :=
  if f.tier ≠ 0 then .error .tierField
  else if f.sel ≠ 0 then .error .selField
  else .ok (if f.mode = 0 then mkL f.kernel else mkA f.kernel)

/-- What the `TIER` code picks among the tiers `X`, `P`, `F`, `FF`, in that order
(`30_encoding.md` R61, R63). -/
def Fields.pickTier {α : Type} (f : Fields) (x p fast fastest : α) : α :=
  if f.tier = 0 then x else if f.tier = 1 then p else if f.tier = 2 then fast else fastest

/-- An instruction of either kernel with tiers; a tier R66 does not list is `none`
(`30_encoding.md` R63, R66). -/
def Fields.tiered (f : Fields) (x p fast fastest : Option (Kernel → Instr)) :
    Except Illegal Instr :=
  match f.pickTier x p fast fastest with
  | none => .error .tierField
  | some build => f.noModeNoSel (build f.kernel)

/-- `POLY` and `LUTRD`: `K = 0`, `TIER` names the slot 1, 2 or 3, `SEL` the function
(`30_encoding.md` R62, R63, R65). -/
def Fields.evaluator (f : Fields) (p fast fastest : EvalFn → Instr) : Except Illegal Instr :=
  if f.k ≠ 0 then .error .kField
  else match f.pickTier none (some p) (some fast) (some fastest) with
    | none => .error .tierField
    | some build =>
      if f.mode ≠ 0 then .error .modeField
      else match evalFnOf f.sel with
        | none => .error .selField
        | some fn => .ok (build fn)

/-- `CONST`: ids 0 to 14 with either `K`, 16 to 19 with `K = 0` (`30_encoding.md` R62, R65). -/
def Fields.constant (f : Fields) (build : Kernel → ConstName → Instr) : Except Illegal Instr :=
  if f.tier ≠ 0 then .error .tierField
  else if f.mode ≠ 0 then .error .modeField
  else match constNameOf f.sel with
    | none => .error .selField
    | some id => if id.wf f.kernel then .ok (build f.kernel id) else .error .selField

/-- The opcode map: what each assigned `OP` is and which `K`, `TIER`, `MODE` and `SEL` it takes
(`30_encoding.md` R66). -/
def Fields.decodeOp (f : Fields) : Except Illegal Instr :=
  match f.op.toNat with
  | 0x01 => f.plain .clz
  | 0x02 => f.shift .shrL .shrA
  | 0x03 => f.plain .norm
  | 0x10 => f.fixedKernel .k32 .qmul30
  | 0x11 => f.fixedKernel .k32 .fma30
  | 0x12 => f.evaluator .polyP .polyF .polyFF
  | 0x13 => f.evaluator .lutrdP .lutrdF .lutrdFF
  | 0x20 => f.plain .fromint
  | 0x21 => f.plain .fromf32
  | 0x22 => f.plain .fromf64
  | 0x23 => f.plain .tointf
  | 0x24 => f.plain .tointc
  | 0x25 => f.plain .tointr
  | 0x26 => f.plain .tof32
  | 0x27 => f.plain .tof64
  | 0x28 => f.plain .ratio
  | 0x29 => f.plain .ratio10
  | 0x2A => f.plain .ratio100
  | 0x2B => f.plain .ratio1000
  | 0x2C => f.fixedKernel .k32 .widen
  | 0x2D => f.fixedKernel .k64 .narrow
  | 0x2E => f.constant .const
  | 0x30 => f.plain .add
  | 0x31 => f.plain .sub
  | 0x32 => f.plain .neg
  | 0x33 => f.plain .mul
  | 0x34 => f.plain .mod
  | 0x40 => f.plain .cmpeq
  | 0x41 => f.plain .cmpne
  | 0x42 => f.plain .cmplt
  | 0x43 => f.plain .cmple
  | 0x44 => f.plain .cmpgt
  | 0x45 => f.plain .cmpge
  | 0x46 => f.plain .min
  | 0x47 => f.plain .max
  | 0x48 => f.plain .clamp
  | 0x49 => f.plain .lerp
  | 0x50 => f.plain .floor
  | 0x51 => f.plain .ceil
  | 0x52 => f.plain .round
  | 0x53 => f.plain .fract
  | 0x60 => f.tiered (some .divX) none (some .divF) (some .divFF)
  | 0x61 => f.tiered none (some .rcpP) (some .rcpF) (some .rcpFF)
  | 0x62 => f.tiered (some .sqrtX) (some .sqrtP) (some .sqrtF) (some .sqrtFF)
  | 0x63 => f.tiered none (some .rsqrtP) (some .rsqrtF) (some .rsqrtFF)
  | 0x70 => f.tiered none (some .exp2P) (some .exp2F) (some .exp2FF)
  | 0x71 => f.tiered none (some .expP) (some .expF) (some .expFF)
  | 0x72 => f.tiered none (some .log2P) (some .log2F) (some .log2FF)
  | 0x73 => f.tiered none (some .logP) (some .logF) (some .logFF)
  | 0x74 => f.tiered none (some .powP) (some .powF) (some .powFF)
  | 0x80 => f.tiered none (some .sinP) (some .sinF) (some .sinFF)
  | 0x81 => f.tiered none (some .cosP) (some .cosF) (some .cosFF)
  | 0x82 => f.tiered none (some .tanP) (some .tanF) (some .tanFF)
  | 0x84 => f.tiered none (some .atan2P) (some .atan2F) (some .atan2FF)
  | 0x85 => f.tiered none (some .atanP) (some .atanF) (some .atanFF)
  | 0x86 => f.tiered none (some .asinP) (some .asinF) (some .asinFF)
  | 0x87 => f.tiered none (some .acosP) (some .acosF) (some .acosFF)
  | _ => .error .unassignedOp

/-- The decoder: check `ZERO`, look up `OP`, check `K`, `TIER`, `MODE` and `SEL` against the map
(`30_encoding.md` R67). A word it rejects is illegal (R69). -/
def decode (w : Word) : Except Illegal Instr :=
  if (fieldsOf w).zero ≠ 0 then .error .zeroField else (fieldsOf w).decodeOp

/-- The instruction the decoder reads from a word of `nbits` bits given as a number, `none` where the
word is illegal. The unit has one command word of 32 bits and no bytes (`30_encoding.md` R60,
`20_memory.md` R43), so the word is the number. -/
def decodeTableWord (nbits w : Nat) : Option Instr :=
  match decode (BitVec.ofNat 32 (w % 2 ^ nbits)) with
  | .ok i => some i
  | .error _ => none

/-! ## The encoder -/

/-- The word of the fields, with `ZERO = 0`: `OP | K<<8 | TIER<<9 | MODE<<11 | SEL<<12`
(`30_encoding.md` R61, R80). -/
def pack (op : BitVec 8) (k : BitVec 1) (tier : BitVec 2) (mode : BitVec 1) (sel : BitVec 5) : Word :=
  op.setWidth 32 ||| (k.setWidth 32 <<< 8) ||| (tier.setWidth 32 <<< 9) |||
    (mode.setWidth 32 <<< 11) ||| (sel.setWidth 32 <<< 12)

/-- The command word of an instruction (`30_encoding.md` R61, R66). -/
def encode : Instr → Word
  | .clz k => pack 0x01 k.code 0 0 0
  | .shrL k => pack 0x02 k.code 0 0 0
  | .shrA k => pack 0x02 k.code 0 1 0
  | .norm k => pack 0x03 k.code 0 0 0
  | .qmul30 => pack 0x10 0 0 0 0
  | .fma30 => pack 0x11 0 0 0 0
  | .polyP fn => pack 0x12 0 1 0 fn.code
  | .polyF fn => pack 0x12 0 2 0 fn.code
  | .polyFF fn => pack 0x12 0 3 0 fn.code
  | .lutrdP fn => pack 0x13 0 1 0 fn.code
  | .lutrdF fn => pack 0x13 0 2 0 fn.code
  | .lutrdFF fn => pack 0x13 0 3 0 fn.code
  | .fromint k => pack 0x20 k.code 0 0 0
  | .fromf32 k => pack 0x21 k.code 0 0 0
  | .fromf64 k => pack 0x22 k.code 0 0 0
  | .tointf k => pack 0x23 k.code 0 0 0
  | .tointc k => pack 0x24 k.code 0 0 0
  | .tointr k => pack 0x25 k.code 0 0 0
  | .tof32 k => pack 0x26 k.code 0 0 0
  | .tof64 k => pack 0x27 k.code 0 0 0
  | .ratio k => pack 0x28 k.code 0 0 0
  | .ratio10 k => pack 0x29 k.code 0 0 0
  | .ratio100 k => pack 0x2A k.code 0 0 0
  | .ratio1000 k => pack 0x2B k.code 0 0 0
  | .widen => pack 0x2C 0 0 0 0
  | .narrow => pack 0x2D 1 0 0 0
  | .const k id => pack 0x2E k.code 0 0 id.code
  | .add k => pack 0x30 k.code 0 0 0
  | .sub k => pack 0x31 k.code 0 0 0
  | .neg k => pack 0x32 k.code 0 0 0
  | .mul k => pack 0x33 k.code 0 0 0
  | .mod k => pack 0x34 k.code 0 0 0
  | .cmpeq k => pack 0x40 k.code 0 0 0
  | .cmpne k => pack 0x41 k.code 0 0 0
  | .cmplt k => pack 0x42 k.code 0 0 0
  | .cmple k => pack 0x43 k.code 0 0 0
  | .cmpgt k => pack 0x44 k.code 0 0 0
  | .cmpge k => pack 0x45 k.code 0 0 0
  | .min k => pack 0x46 k.code 0 0 0
  | .max k => pack 0x47 k.code 0 0 0
  | .clamp k => pack 0x48 k.code 0 0 0
  | .lerp k => pack 0x49 k.code 0 0 0
  | .floor k => pack 0x50 k.code 0 0 0
  | .ceil k => pack 0x51 k.code 0 0 0
  | .round k => pack 0x52 k.code 0 0 0
  | .fract k => pack 0x53 k.code 0 0 0
  | .divX k => pack 0x60 k.code 0 0 0
  | .divF k => pack 0x60 k.code 2 0 0
  | .divFF k => pack 0x60 k.code 3 0 0
  | .rcpP k => pack 0x61 k.code 1 0 0
  | .rcpF k => pack 0x61 k.code 2 0 0
  | .rcpFF k => pack 0x61 k.code 3 0 0
  | .sqrtX k => pack 0x62 k.code 0 0 0
  | .sqrtP k => pack 0x62 k.code 1 0 0
  | .sqrtF k => pack 0x62 k.code 2 0 0
  | .sqrtFF k => pack 0x62 k.code 3 0 0
  | .rsqrtP k => pack 0x63 k.code 1 0 0
  | .rsqrtF k => pack 0x63 k.code 2 0 0
  | .rsqrtFF k => pack 0x63 k.code 3 0 0
  | .exp2P k => pack 0x70 k.code 1 0 0
  | .exp2F k => pack 0x70 k.code 2 0 0
  | .exp2FF k => pack 0x70 k.code 3 0 0
  | .expP k => pack 0x71 k.code 1 0 0
  | .expF k => pack 0x71 k.code 2 0 0
  | .expFF k => pack 0x71 k.code 3 0 0
  | .log2P k => pack 0x72 k.code 1 0 0
  | .log2F k => pack 0x72 k.code 2 0 0
  | .log2FF k => pack 0x72 k.code 3 0 0
  | .logP k => pack 0x73 k.code 1 0 0
  | .logF k => pack 0x73 k.code 2 0 0
  | .logFF k => pack 0x73 k.code 3 0 0
  | .powP k => pack 0x74 k.code 1 0 0
  | .powF k => pack 0x74 k.code 2 0 0
  | .powFF k => pack 0x74 k.code 3 0 0
  | .sinP k => pack 0x80 k.code 1 0 0
  | .sinF k => pack 0x80 k.code 2 0 0
  | .sinFF k => pack 0x80 k.code 3 0 0
  | .cosP k => pack 0x81 k.code 1 0 0
  | .cosF k => pack 0x81 k.code 2 0 0
  | .cosFF k => pack 0x81 k.code 3 0 0
  | .tanP k => pack 0x82 k.code 1 0 0
  | .tanF k => pack 0x82 k.code 2 0 0
  | .tanFF k => pack 0x82 k.code 3 0 0
  | .atan2P k => pack 0x84 k.code 1 0 0
  | .atan2F k => pack 0x84 k.code 2 0 0
  | .atan2FF k => pack 0x84 k.code 3 0 0
  | .atanP k => pack 0x85 k.code 1 0 0
  | .atanF k => pack 0x85 k.code 2 0 0
  | .atanFF k => pack 0x85 k.code 3 0 0
  | .asinP k => pack 0x86 k.code 1 0 0
  | .asinF k => pack 0x86 k.code 2 0 0
  | .asinFF k => pack 0x86 k.code 3 0 0
  | .acosP k => pack 0x87 k.code 1 0 0
  | .acosF k => pack 0x87 k.code 2 0 0
  | .acosFF k => pack 0x87 k.code 3 0 0

end Sys2Proof
end

