-- ==== Sys2Proof/Config.lean ====
section
/-! DEFINITION. What one FPFU's configuration holds (`00_scope.md` R8, R14): the type of the coefficient
ROM, the two floating-point formats, and the free values, constants without a body for everything the
spec leaves open. The ROM a configured unit carries is built from them in Machine/Rom.lean. -/

namespace Sys2Proof

/-! ## The coefficient ROM as data -/

/-- One evaluator: its degree `N`, its row count `M` and its rows, each of coefficients with the highest
power first (`10_state.md` R26). -/
structure Evaluator where
  /-- `ROM.N[fn][slot]`. -/
  degree : Nat
  /-- `ROM.M[fn][slot]`, 1 for an evaluator without a lookup table. -/
  rowCount : Nat
  /-- `ROM.coef[fn][slot]`: `coef[row][i]`. -/
  coef : List (List Word)
deriving DecidableEq, Repr

/-- The three evaluators of one function, by slot (`10_state.md` R26). -/
structure SlotTable where
  p : Evaluator
  f : Evaluator
  ff : Evaluator
deriving DecidableEq, Repr

/-- The coefficient ROM: 24 evaluators, 8 functions by 3 slots (`10_state.md` R26). -/
structure CoefRom where
  sin : SlotTable
  log : SlotTable
  log2 : SlotTable
  exp2 : SlotTable
  atan : SlotTable
  rcp : SlotTable
  rsqrt : SlotTable
  sqrt : SlotTable
deriving DecidableEq, Repr

/-! ## Floating-point formats -/

/-- The two IEEE 754 formats at the boundary (`42_convert_arith.md` R143, R144). -/
inductive FloatFormat where
  | binary32
  | binary64
deriving DecidableEq, Repr

/-- The width of a pattern of the format (`42_convert_arith.md` R143, R144). -/
abbrev FloatFormat.width : FloatFormat → Nat
  | .binary32 => 32
  | .binary64 => 64

/-! ## Free values

Constants without a body: nothing can evaluate them, so a statement holds whatever they are. -/

/-- `FLOAT_OOR(K, format, pattern)`: what converting a NaN, an infinity or an out-of-range number
returns, a function of its three arguments and of nothing else (`93_implementation_defined.md` U1).
Log entry 8. -/
opaque Config.floatOor : (k : Kernel) → (fmt : FloatFormat) → BitVec fmt.width → Raw k

/-- The degree of an evaluator whose degree the document leaves open, less 2: the constraint is
`2 <= N <= 8` (`41_poly_lut.md` R127). Log entry 6. -/
opaque Config.openDegree : EvalFn → Slot → Fin 7

/-- Whether an evaluator of which the document does not say that it has a table has one
(`41_poly_lut.md` R127). Log entry 6. -/
opaque Config.openHasTable : EvalFn → Slot → Bool

/-- Whether a table whose size the document leaves open has 16 rows; else it has 8
(`41_poly_lut.md` R127). Log entry 6. -/
opaque Config.openSixteenRows : EvalFn → Slot → Bool

/-- The coefficient words, `ROM.coef[fn][slot][row][i]` (`10_state.md` R26,
`93_implementation_defined.md` U2). Log entry 6. -/
opaque Config.coefWord : EvalFn → Slot → Nat → Nat → Word

/-- What a coefficient read gives at a row and index the evaluator does not have. The read primitive
"is defined for no other index" (`20_memory.md` R41), and no index outside is formed on a legal ROM.
Log entry 7. -/
opaque Config.absentCoef : Nat → Nat → Word

end Sys2Proof
end

