-- ==== Sys2Proof/Machine/ConstRom.lean ====
section
/-! DEFINITION. The constant ROM (`10_state.md` R27, R28, `20_memory.md` R42) and the kernel-format
quantities the rules name without an id (`00_scope.md` R10). The values are the spec's tables: log
entry 9. -/

namespace Sys2Proof.Machine

/-- The K32 column of the constant table (`10_state.md` R27). -/
def constK32 : KConst → BitVec 32
  | .zero => 0x00000000
  | .one => 0x00010000
  | .two => 0x00020000
  | .three => 0x00030000
  | .four => 0x00040000
  | .half => 0x00008000
  | .negOne => 0xFFFF0000
  | .pi => 0x0003243F
  | .pi2 => 0x0006487E
  | .piHalf => 0x0001921F
  | .e => 0x0002B7E1
  | .minVal => 0x80000000
  | .maxVal => 0x7FFFFFFF
  | .rcpLn2 => 0x00017154
  | .ln2 => 0x0000B172

/-- The K64 column of the constant table (`10_state.md` R27). -/
def constK64 : KConst → BitVec 64
  | .zero => 0x0000000000000000
  | .one => 0x0000000100000000
  | .two => 0x0000000200000000
  | .three => 0x0000000300000000
  | .four => 0x0000000400000000
  | .half => 0x0000000080000000
  | .negOne => 0xFFFFFFFF00000000
  | .pi => 0x00000003243F6A88
  | .pi2 => 0x00000006487ED511
  | .piHalf => 0x00000001921FB544
  | .e => 0x00000002B7E15162
  | .minVal => 0x8000000000000000
  | .maxVal => 0x7FFFFFFFFFFFFFFF
  | .rcpLn2 => 0x0000000171547652
  | .ln2 => 0x00000000B17217F7

/-- `Const(K, id)` for ids 0 to 14 (`20_memory.md` R42). -/
def constRaw (k : Kernel) (c : KConst) : Raw k :=
  match k with
  | .k32 => constK32 c
  | .k64 => constK64 c

/-- `ConstS230(id)` for ids 16 to 19 (`20_memory.md` R42, `10_state.md` R28). -/
def constS230 : S230Const → Word
  | .sqrt2 => 0x5A827999
  | .halfSqrt2 => 0x2D413CCD
  | .rcpHalfPi => 0x28BE60DC
  | .oneS230 => 0x40000000

/-- `one = 2^F`, raw 1.0 (`00_scope.md` R10). -/
def oneRaw (k : Kernel) : Raw k := BitVec.ofNat k.width (2 ^ k.frac)

/-- `half = 2^(F-1)` (`00_scope.md` R10). -/
def halfRaw (k : Kernel) : Raw k := BitVec.ofNat k.width (2 ^ (k.frac - 1))

/-- `FracMask = 2^F - 1` (`00_scope.md` R10). -/
def fracMask (k : Kernel) : Raw k := BitVec.ofNat k.width (2 ^ k.frac - 1)

/-- `IntMask = wrap_W(-(2^F))` (`00_scope.md` R10). -/
def intMask (k : Kernel) : Raw k := BitVec.ofInt k.width (-(2 ^ k.frac))

/-- `MIN = wrap_W(-2^(W-1))` (`00_scope.md` R10). -/
def minRaw (k : Kernel) : Raw k := BitVec.ofInt k.width (-(2 ^ (k.width - 1)))

/-- `MAX = 2^(W-1) - 1` (`00_scope.md` R10). -/
def maxRaw (k : Kernel) : Raw k := BitVec.ofNat k.width (2 ^ (k.width - 1) - 1)

/-- `ONE = 2^30`, 1.0 in s2.30 (`00_scope.md` R10, `10_state.md` R28). -/
def oneS230 : Word := constS230 .oneS230

end Sys2Proof.Machine
end

