-- ==== Sys2Proof/Machine/Rom.lean ====
section
/-! DEFINITION. The coefficient ROM: selection of an evaluator, the read primitive, the constraints a
legal configuration meets, and the contents a configured unit carries. -/

namespace Sys2Proof.Machine

/-- The evaluator of a slot (`10_state.md` R26). -/
def slotOf (t : SlotTable) : Slot → Evaluator
  | .p => t.p
  | .f => t.f
  | .ff => t.ff

/-- The evaluator `(fn, slot)` (`10_state.md` R26). -/
def evaluator (rom : CoefRom) (fn : EvalFn) (slot : Slot) : Evaluator :=
  match fn with
  | .sin => slotOf rom.sin slot
  | .log => slotOf rom.log slot
  | .log2 => slotOf rom.log2 slot
  | .exp2 => slotOf rom.exp2 slot
  | .atan => slotOf rom.atan slot
  | .rcp => slotOf rom.rcp slot
  | .rsqrt => slotOf rom.rsqrt slot
  | .sqrt => slotOf rom.sqrt slot

/-- The coefficient read primitive `Rom(fn, slot, row, i)` (`20_memory.md` R41). An index the evaluator
does not have gives the free value `Config.absentCoef`. -/
def romRead (rom : CoefRom) (fn : EvalFn) (slot : Slot) (row i : Nat) : Word :=
  match (evaluator rom fn slot).coef[row]? with
  | none => Config.absentCoef row i
  | some r =>
    match r[i]? with
    | none => Config.absentCoef row i
    | some c => c

/-! ## Legal configurations -/

/-- The constraints on every evaluator: `2 <= N <= 8`, `M` in 1, 8, 16, and `M` rows of `N + 1` words
(`10_state.md` R26, `41_poly_lut.md` R127). -/
def evaluatorWf (e : Evaluator) : Bool :=
  decide (2 ≤ e.degree) && decide (e.degree ≤ 8) &&
    (decide (e.rowCount = 1) || decide (e.rowCount = 8) || decide (e.rowCount = 16)) &&
    decide (e.coef.length = e.rowCount) && e.coef.all fun r => decide (r.length = e.degree + 1)

/-- The degree the document fixes for an evaluator, if it does: the plain entries of the table of
`41_poly_lut.md` R127. -/
def fixedDegree : EvalFn → Slot → Option Nat
  | .sin, .p => some 4
  | .sin, .f => some 3
  | .sin, .ff => some 2
  | .atan, .p => some 5
  | .atan, .f => some 3
  | .atan, .ff => some 4
  | .rcp, .p => some 4
  | .rcp, .f => some 6
  | .rcp, .ff => some 4
  | .sqrt, .f => some 4
  | .sqrt, .ff => some 3
  | _, _ => none

/-- What the document says of an evaluator's row count: one row, a table, a table of 8 rows, or
nothing (`41_poly_lut.md` R127). -/
inductive RowRule where
  | single
  | table
  | eight
  | anyCount
deriving DecidableEq, Repr

/-- The row-count column of the table of `41_poly_lut.md` R127. -/
def rowRule : EvalFn → Slot → RowRule
  | .sin, _ => .single
  | .atan, .ff => .single
  | .atan, _ => .table
  | .rcp, .p => .table
  | .rcp, _ => .single
  | .sqrt, .p => .eight
  | .sqrt, _ => .single
  | _, _ => .anyCount

/-- A row count obeys a rule (`41_poly_lut.md` R127); that it is 1, 8 or 16 is `evaluatorWf`. -/
def rowRuleMet (r : RowRule) (m : Nat) : Bool :=
  match r with
  | .single => decide (m = 1)
  | .table => decide (1 < m)
  | .eight => decide (m = 8)
  | .anyCount => true

/-- An evaluator obeys the constraints and the entries the document fixes for its place
(`41_poly_lut.md` R127). -/
def evaluatorLegal (rom : CoefRom) (fn : EvalFn) (slot : Slot) : Bool :=
  let e := evaluator rom fn slot
  evaluatorWf e &&
    (match fixedDegree fn slot with
      | some n => decide (e.degree = n)
      | none => true) &&
    rowRuleMet (rowRule fn slot) e.rowCount

/-- The 8 functions (`10_state.md` R26). -/
def allFns : List EvalFn := [.sin, .log, .log2, .exp2, .atan, .rcp, .rsqrt, .sqrt]

/-- The 3 slots (`10_state.md` R26). -/
def allSlots : List Slot := [.p, .f, .ff]

/-- A legal ROM: every evaluator is. A configuration that violates a constraint "is not an FPFU"
(`93_implementation_defined.md` U2). -/
def romWf (rom : CoefRom) : Bool :=
  allFns.all fun fn => allSlots.all fun slot => evaluatorLegal rom fn slot

/-! ## The configured contents -/

/-- The degree of an evaluator of the configured unit: the fixed one, else the open one
(`41_poly_lut.md` R127). -/
def configDegree (fn : EvalFn) (slot : Slot) : Nat :=
  match fixedDegree fn slot with
  | some n => n
  | none => 2 + (Config.openDegree fn slot).val

/-- The row count of an evaluator of the configured unit (`41_poly_lut.md` R127). -/
def configRowCount (fn : EvalFn) (slot : Slot) : Nat :=
  let size := if Config.openSixteenRows fn slot then 16 else 8
  match rowRule fn slot with
  | .single => 1
  | .table => size
  | .eight => 8
  | .anyCount => if Config.openHasTable fn slot then size else 1

/-- An evaluator of the configured unit: `M` rows of `N + 1` free words (`10_state.md` R26). -/
def configEvaluator (fn : EvalFn) (slot : Slot) : Evaluator where
  degree := configDegree fn slot
  rowCount := configRowCount fn slot
  coef := (List.range (configRowCount fn slot)).map fun row =>
    (List.range (configDegree fn slot + 1)).map fun i => Config.coefWord fn slot row i

/-- The evaluators of one function of the configured unit. -/
def configSlots (fn : EvalFn) : SlotTable where
  p := configEvaluator fn .p
  f := configEvaluator fn .f
  ff := configEvaluator fn .ff

/-- The coefficient ROM of the configured unit: legal by construction, every open entry a free value
(`10_state.md` R26, R31, `93_implementation_defined.md` U2). DESIGN CHOICE: log entry 6. -/
def configRom : CoefRom where
  sin := configSlots .sin
  log := configSlots .log
  log2 := configSlots .log2
  exp2 := configSlots .exp2
  atan := configSlots .atan
  rcp := configSlots .rcp
  rsqrt := configSlots .rsqrt
  sqrt := configSlots .sqrt

end Sys2Proof.Machine
end

