-- ==== Sys2Proof/Machine/State.lean ====
section
/-! DEFINITION. The state of the FPFU, its reset value, and the reasons a step could stop. -/

namespace Sys2Proof.Machine

/-- The fault code of the latch and of a response. Codes 4 to 7 never occur (`10_state.md` R24,
`60_exceptions.md` R301, `93_implementation_defined.md` U6), so the type has exactly these four; the
3-bit code of each is `faultBits`. Log entry 15. -/
inductive FaultCode where
  /-- Code 0: the unit is running. -/
  | none
  /-- Code 1: the command word is illegal (`30_encoding.md` R69). -/
  | illegalCommand
  /-- Code 2: `NARROW` was executed (`60_exceptions.md` R302). -/
  | notImplemented
  /-- Code 3: `LUTRD` with an index above the degree (`41_poly_lut.md` R130). -/
  | romIndex
deriving DecidableEq, Repr

/-- A command: the command word and three operand ports, sampled together (`10_state.md` R21,
`20_memory.md` R51). -/
structure Command where
  word : Word
  opa : Port
  opb : Port
  opc : Port
deriving DecidableEq, Repr

/-- A response: a fault code and a result (`10_state.md` R21). -/
structure Response where
  flt : FaultCode
  res : Port
deriving DecidableEq, Repr

/-- What can reach the unit: a command that is accepted and answered (`70_reset_and_hazards.md` R334), or
`rst`, asserted while the given commands are accepted and not yet answered (R330). Log entries 1 and 3. -/
inductive HostEvent where
  | command (c : Command)
  | reset (inFlight : List Command)
deriving DecidableEq, Repr

/-- The state of the unit and of the transactions at its ports. -/
structure State where
  /-- `FLT.code`, the sticky fault latch (`10_state.md` R24). -/
  flt : FaultCode
  /-- The coefficient ROM (`10_state.md` R26); no command writes it. -/
  rom : CoefRom
  /-- The MODEL's field: the command answered last or being answered, whose operands, sampled with it, a
  meaning reads (`20_memory.md` R51). Log entry 5. -/
  port : Command
  /-- The MODEL's field: what the host presents next, first next (`70_reset_and_hazards.md` R336). Log
  entry 1. -/
  host : List HostEvent
  /-- The MODEL's field: the responses delivered, oldest first (`20_memory.md` R48,
  `70_reset_and_hazards.md` R336). Log entry 2. -/
  responses : List Response
deriving DecidableEq, Repr

/-- The reasons for which the machine stops. There is none: every command gets a response
(`70_reset_and_hazards.md` R334), a faulting one too, and the halt after a fault is a state that goes on
answering (`60_exceptions.md` R304). Log entry 16. -/
inductive Fault where
deriving DecidableEq, Repr

/-- The reasons for which the model refuses. -/
inductive Refusal where
  /-- Raised by an arm of `exec` whose instruction has no meaning yet; no arm raises it. Safe: the model
  stops where the unit goes on. -/
  | notModelled (mnemonic : String)
deriving DecidableEq, Repr

/-- The unit right after reset: `FLT.code` is 0 and the ROM holds its configured contents
(`10_state.md` R31, `70_reset_and_hazards.md` R330, R332). The host has presented nothing and no
response has been delivered (DESIGN CHOICE, log entries 1, 2 and 5). -/
def State.reset : State where
  flt := .none
  rom := configRom
  port := { word := 0, opa := 0, opb := 0, opc := 0 }
  host := []
  responses := []

end Sys2Proof.Machine
end

