-- ==== Sys2Proof/Machine/Flags.lean ====
section
/-! DEFINITION. The unit has no status flags (`10_state.md` R23): no instruction writes one. What it has
in their place: the truth value a comparison returns as an ordinary result, and the 3-bit code of the
fault latch. -/

namespace Sys2Proof.Machine

/-- A truth value as a result: 1 or 0, zero-extended, not the fixed-point 1.0
(`46_compare_round.md`, section 1, `10_state.md` R21). -/
def truth (b : Bool) : Port := if b then 1 else 0

/-- `FLT.code`, bits 2:0 (`10_state.md` R24, `60_exceptions.md` R301). -/
def faultBits : FaultCode → BitVec 3
  | .none => 0
  | .illegalCommand => 1
  | .notImplemented => 2
  | .romIndex => 3

end Sys2Proof.Machine
end

