-- ==== Sys2Proof/Machine/Operands.lean ====
section
/-! DEFINITION. The operand and result forms: at which width a port is read and how a result is put on
the 64-bit result port (`10_state.md` R21, `00_scope.md` R11). -/

namespace Sys2Proof.Machine

/-! ## Operands -/

/-- `A = opa[W-1:0]`; for K32 the upper half of the port is ignored (`00_scope.md` R11,
`10_state.md` R21). -/
def opA (k : Kernel) (s : State) : Raw k := s.port.opa.setWidth k.width

/-- `B = opb[W-1:0]` (`00_scope.md` R11). -/
def opB (k : Kernel) (s : State) : Raw k := s.port.opb.setWidth k.width

/-- `C = opc[W-1:0]` (`00_scope.md` R11). -/
def opC (k : Kernel) (s : State) : Raw k := s.port.opc.setWidth k.width

/-- `opa[31:0]`: a 32-bit integer, an s2.30 value or a binary32 pattern (`10_state.md` R21). -/
def wordA (s : State) : Word := s.port.opa.setWidth 32

/-- `opb[31:0]`: a 32-bit integer, an s2.30 value, an index or a shift amount (`10_state.md` R21). -/
def wordB (s : State) : Word := s.port.opb.setWidth 32

/-- `opc[31:0]`: an s2.30 value (`10_state.md` R21). -/
def wordC (s : State) : Word := s.port.opc.setWidth 32

/-! ## Results -/

/-- A signed result of any width, sign-extended to the port: `RES_K` (`00_scope.md` R11,
`10_state.md` R21). -/
def signedResult {n : Nat} (v : BitVec n) : Port := v.signExtend 64

/-- A pattern, zero-extended to the port (`10_state.md` R21). -/
def unsignedResult {n : Nat} (v : BitVec n) : Port := v.setWidth 64

/-- `NORM`'s packed result: the mantissa in `res[31:0]`, the exponent in `res[63:32]`
(`10_state.md` R21, `40_normalize.md` R107). -/
def packedResult (mant : Word) (exp : Int) : Port := BitVec.ofInt 32 exp ++ mant

end Sys2Proof.Machine
end

