-- ==== Sys2Proof/Machine/Ops.lean ====
section
/-! DEFINITION. The shared operations on the state: accepting a command, completing it, taking a fault,
the halted response and reset, which is the only return from a fault. -/

namespace Sys2Proof.Machine

/-- The answer of every operation and every meaning. -/
abbrev Answer := Host.Outcome State Fault Refusal

/-- The command is accepted: its four values are sampled together and the host's list moves on
(`20_memory.md` R51, `70_reset_and_hazards.md` R334). -/
def accept (c : Command) (rest : List HostEvent) (s : State) : State :=
  { s with port := c, host := rest }

/-- A response is delivered, after every earlier one (`20_memory.md` R48). -/
def deliver (r : Response) (s : State) : State :=
  { s with responses := s.responses ++ [r] }

/-- The state after a command that completes with a result: the response is `flt = 0` and the result,
and nothing else changes (`60_exceptions.md` R300, `20_memory.md` R45, R47). -/
def completed (v : Port) (s : State) : State :=
  deliver { flt := .none, res := v } s

/-- A command completes with a result. -/
def complete (v : Port) (s : State) : Answer :=
  .next (completed v s)

/-- The state a fault leaves: the latch holds the code and the response of the command is the code with
`res = 0`; nothing is saved, no mode changes, no control goes anywhere (`60_exceptions.md` R304). -/
def latchFault (c : FaultCode) (s : State) : State :=
  deliver { flt := c, res := 0 } { s with flt := c }

/-- Taking a fault, `raise Fault(c)`, on a running unit (`60_exceptions.md` R304). -/
def raiseFault (c : FaultCode) (s : State) : Answer :=
  .next (latchFault c s)

/-- The halted response: `flt = FLT.code`, `res = 0`, and the latch does not change
(`60_exceptions.md` R304). -/
def answerHalted (s : State) : Answer :=
  .next (deliver { flt := s.flt, res := 0 } s)

/-- Reset, the only way out of the halted state: the latch is cleared and nothing else changes
(`70_reset_and_hazards.md` R330, `60_exceptions.md` R306). The commands in flight are discarded: they give
no response, and of what they did to the latch nothing remains (log entry 3). Responses already delivered
stay delivered (log entry 14). -/
def applyReset (rest : List HostEvent) (s : State) : State :=
  { s with flt := .none, host := rest }

end Sys2Proof.Machine
end

