-- ==== Sys2Proof/Machine/Normalize.lean ====
section
/-! DEFINITION. The normalization unit: leading-zero detector, barrel shifter, mantissa normalization
and rescale, and the instructions `CLZ`, `SHR`, `NORM` (`40_normalize.md`). -/

namespace Sys2Proof.Machine

/-! ## Datapath functions -/

/-- `clz_N(u)`: `N` for 0, else the number of zero bits above the most significant 1 bit
(`40_normalize.md` R100). -/
def clz {n : Nat} (u : BitVec n) : Nat :=
  if u.toNat = 0 then n else n - 1 - Nat.log2 u.toNat

/-- `msb_N(u)`: the index of the most significant 1 bit, -1 for 0 (`40_normalize.md` R100). -/
def msbIndex {n : Nat} (u : BitVec n) : Int := (n : Int) - 1 - clz u

/-- `shr_N(mode, v, n)`: a right shift for `0 <= n < N`, a left shift by `-n` for `-N < n < 0`, and 0
for every other amount (`40_normalize.md` R101, `90_conflicts.md` C8). -/
def shr {w : Nat} (mode : ShiftMode) (v : BitVec w) (n : Int) : BitVec w :=
  if 0 ≤ n ∧ n < w then
    match mode with
    | .arithmetic => BitVec.ofInt w (v.toInt / 2 ^ n.toNat)
    | .logical => BitVec.ofNat w (v.toNat / 2 ^ n.toNat)
  else if -(w : Int) < n ∧ n < 0 then BitVec.ofNat w (v.toNat * 2 ^ (-n).toNat)
  else 0

/-- The mantissa `n` of `norm_K(u)`: the top 1 bit moved to bit 30, low bits shifted out dropped
(`40_normalize.md` R102). -/
def normMant {w : Nat} (u : BitVec w) : Word := (shr .logical u (msbIndex u - 30)).setWidth 32

/-- The exponent `e` of `norm_K(u)`, of the real value the operand stands for
(`40_normalize.md` R102). -/
def normExp (k : Kernel) (u : Raw k) : Int := msbIndex u - k.frac

/-- The centred input of an evaluator, `k = wrap_32(n - ONE)`, for the mantissa of `u`
(`40_normalize.md` R102). -/
def centred {w : Nat} (u : BitVec w) : Word := normMant u - oneS230

/-- `toraw_K(y, sh)`: the s2.30 pattern sign-extended to the kernel's width, then shifted right
arithmetically (`40_normalize.md` R103). -/
def toRaw (k : Kernel) (y : Word) (sh : Int) : Raw k := shr .arithmetic (y.signExtend k.width) sh

/-! ## Instructions -/

/-- `CLZ` (`40_normalize.md` R105). -/
def execClz (k : Kernel) (s : State) : Answer :=
  complete (BitVec.ofNat 64 (clz (opA k s))) s

/-- `SHR.L` (`40_normalize.md` R106): the amount is `opb[31:0]`, signed. -/
def execShrL (k : Kernel) (s : State) : Answer :=
  complete (signedResult (shr .logical (opA k s) (wordB s).toInt)) s

/-- `SHR.A` (`40_normalize.md` R106): the amount is `opb[31:0]`, signed. -/
def execShrA (k : Kernel) (s : State) : Answer :=
  complete (signedResult (shr .arithmetic (opA k s) (wordB s).toInt)) s

/-- `NORM` (`40_normalize.md` R107): the operand is read as unsigned. -/
def execNorm (k : Kernel) (s : State) : Answer :=
  complete (packedResult (normMant (opA k s)) (normExp k (opA k s))) s

end Sys2Proof.Machine
end

