-- ==== Sys2Proof/Machine/Arith.lean ====
section
/-! DEFINITION. The arithmetic helpers the pipelines share, and core arithmetic: `ADD`, `SUB`, `NEG`,
`MUL`, `MOD` (`42_convert_arith.md` R141, R157 to R162). Overflow wraps everywhere (R162). -/

namespace Sys2Proof.Machine

/-! ## Helpers -/

/-- `add_K` (`42_convert_arith.md` R141). -/
def addK (k : Kernel) (a b : Raw k) : Raw k := BitVec.ofInt k.width (a.toInt + b.toInt)

/-- `sub_K` (`42_convert_arith.md` R141). -/
def subK (k : Kernel) (a b : Raw k) : Raw k := BitVec.ofInt k.width (a.toInt - b.toInt)

/-- `neg_K`; `neg_K(MIN) = MIN` (`42_convert_arith.md` R141). -/
def negK (k : Kernel) (a : Raw k) : Raw k := BitVec.ofInt k.width (-a.toInt)

/-- `mul_K`: the exact product, shifted right by `F` toward minus infinity, narrowed by wrapping
(`42_convert_arith.md` R141). -/
def mulK (k : Kernel) (a b : Raw k) : Raw k :=
  BitVec.ofInt k.width (a.toInt * b.toInt / 2 ^ k.frac)

/-- `tdiv(p, q)`: the integer quotient truncated toward zero, `q != 0` (`42_convert_arith.md` R141). -/
def tdiv (p q : Int) : Int := p.sign * q.sign * ((p.natAbs / q.natAbs : Nat) : Int)

/-- `mod_K`: 0 for a divisor of 0, else the remainder, which has the dividend's sign
(`42_convert_arith.md` R141). -/
def modK (k : Kernel) (a b : Raw k) : Raw k :=
  if b.toInt = 0 then 0
  else BitVec.ofInt k.width (a.toInt - b.toInt * tdiv a.toInt b.toInt)

/-! ## Instructions -/

/-- `ADD` (`42_convert_arith.md` R157). -/
def execAdd (k : Kernel) (s : State) : Answer :=
  complete (signedResult (addK k (opA k s) (opB k s))) s

/-- `SUB` (`42_convert_arith.md` R158). -/
def execSub (k : Kernel) (s : State) : Answer :=
  complete (signedResult (subK k (opA k s) (opB k s))) s

/-- `NEG` (`42_convert_arith.md` R159). -/
def execNeg (k : Kernel) (s : State) : Answer :=
  complete (signedResult (negK k (opA k s))) s

/-- `MUL` (`42_convert_arith.md` R160). -/
def execMul (k : Kernel) (s : State) : Answer :=
  complete (signedResult (mulK k (opA k s) (opB k s))) s

/-- `MOD` (`42_convert_arith.md` R161). -/
def execMod (k : Kernel) (s : State) : Answer :=
  complete (signedResult (modK k (opA k s) (opB k s))) s

end Sys2Proof.Machine
end

