-- ==== Sys2Proof/Machine/Compare.lean ====
section
/-! DEFINITION. Comparison, selection, interpolation and rounding (`46_compare_round.md`). -/

namespace Sys2Proof.Machine

/-! ## Helpers -/

/-- The smaller of two values (`46_compare_round.md` R266). -/
def minK (k : Kernel) (a b : Raw k) : Raw k := if b.toInt < a.toInt then b else a

/-- The larger of two values (`46_compare_round.md` R267). -/
def maxK (k : Kernel) (a b : Raw k) : Raw k := if a.toInt < b.toInt then b else a

/-- A value limited to an interval; the upper bound is tested first (`46_compare_round.md` R268). -/
def clampK (k : Kernel) (v lo hi : Raw k) : Raw k :=
  if hi.toInt < v.toInt then hi else if v.toInt < lo.toInt then lo else v

/-- `a * (1 - t) + b * t` in raw fixed-point steps (`46_compare_round.md` R269). -/
def lerpK (k : Kernel) (a b t : Raw k) : Raw k :=
  addK k (mulK k a (subK k (oneRaw k) t)) (mulK k b t)

/-! ## Instructions -/

/-- `CMPEQ` (`46_compare_round.md` R260). -/
def execCmpeq (k : Kernel) (s : State) : Answer :=
  complete (truth (decide (opA k s = opB k s))) s

/-- `CMPNE` (`46_compare_round.md` R261). -/
def execCmpne (k : Kernel) (s : State) : Answer :=
  complete (truth (decide (opA k s ≠ opB k s))) s

/-- `CMPLT`, signed (`46_compare_round.md` R262). -/
def execCmplt (k : Kernel) (s : State) : Answer :=
  complete (truth (decide ((opA k s).toInt < (opB k s).toInt))) s

/-- `CMPLE`, signed (`46_compare_round.md` R263). -/
def execCmple (k : Kernel) (s : State) : Answer :=
  complete (truth (decide ((opA k s).toInt ≤ (opB k s).toInt))) s

/-- `CMPGT`, signed (`46_compare_round.md` R264). -/
def execCmpgt (k : Kernel) (s : State) : Answer :=
  complete (truth (decide ((opA k s).toInt > (opB k s).toInt))) s

/-- `CMPGE`, signed (`46_compare_round.md` R265). -/
def execCmpge (k : Kernel) (s : State) : Answer :=
  complete (truth (decide ((opA k s).toInt ≥ (opB k s).toInt))) s

/-- `MIN` (`46_compare_round.md` R266). -/
def execMin (k : Kernel) (s : State) : Answer :=
  complete (signedResult (minK k (opA k s) (opB k s))) s

/-- `MAX` (`46_compare_round.md` R267). -/
def execMax (k : Kernel) (s : State) : Answer :=
  complete (signedResult (maxK k (opA k s) (opB k s))) s

/-- `CLAMP`: operands `v`, `lo`, `hi` (`46_compare_round.md` R268). -/
def execClamp (k : Kernel) (s : State) : Answer :=
  complete (signedResult (clampK k (opA k s) (opB k s) (opC k s))) s

/-- `LERP`: operands `a`, `b`, `t` (`46_compare_round.md` R269). -/
def execLerp (k : Kernel) (s : State) : Answer :=
  complete (signedResult (lerpK k (opA k s) (opB k s) (opC k s))) s

/-- `FLOOR` (`46_compare_round.md` R270). -/
def execFloor (k : Kernel) (s : State) : Answer :=
  complete (signedResult (opA k s &&& intMask k)) s

/-- `CEIL`, the addition wrapping (`46_compare_round.md` R271). -/
def execCeil (k : Kernel) (s : State) : Answer :=
  complete (signedResult ((opA k s + fracMask k) &&& intMask k)) s

/-- `ROUND`, ties toward plus infinity, the addition wrapping (`46_compare_round.md` R272). -/
def execRound (k : Kernel) (s : State) : Answer :=
  complete (signedResult ((opA k s + halfRaw k) &&& intMask k)) s

/-- `FRACT` (`46_compare_round.md` R273). -/
def execFract (k : Kernel) (s : State) : Answer :=
  complete (signedResult (opA k s &&& fracMask k)) s

end Sys2Proof.Machine
end

