-- ==== Sys2Proof/Machine/PolyLut.lean ====
section
/-! DEFINITION. The polynomial evaluator and the lookup-table multiplexer, and the instructions `QMUL30`,
`FMA30`, `POLY`, `LUTRD` (`41_poly_lut.md`). -/

namespace Sys2Proof.Machine

/-! ## Datapath functions -/

/-- `qmul30(a, b)`: the exact product shifted right arithmetically by 30, the low 32 bits kept
(`41_poly_lut.md` R120). -/
def qmul30 (a b : Word) : Word := BitVec.ofInt 32 (a.toInt * b.toInt / 2 ^ 30)

/-- `fma30(k, acc, c)`: one Horner step, the sum wrapping (`41_poly_lut.md` R121). -/
def fma30 (k acc c : Word) : Word := BitVec.ofInt 32 ((qmul30 k acc).toInt + c.toInt)

/-- The row of an evaluator of `m` rows that the centred input `k` selects: its top `log2 m` bits below
bit 30, clamped (`41_poly_lut.md` R122). -/
def rowOf (m : Nat) (k : Word) : Nat :=
  if m = 1 then 0
  else (min ((m : Int) - 1) (max 0 (k.toInt / 2 ^ (30 - Nat.log2 m)))).toNat

/-- `rowsel(fn, slot, k)`, the lookup-table multiplexer (`41_poly_lut.md` R122). -/
def rowSel (rom : CoefRom) (fn : EvalFn) (slot : Slot) (k : Word) : Nat :=
  rowOf (evaluator rom fn slot).rowCount k

/-- The loop of the evaluator: after `i` steps the accumulator has taken coefficients 0 to `i`
(`41_poly_lut.md` R123). -/
def horner (coef : Nat → Word) (k : Word) : Nat → Word
  | 0 => coef 0
  | i + 1 => fma30 k (horner coef k i) (coef (i + 1))

/-- `poly(fn, slot, k)`: Horner's rule over the selected row, from the highest power down
(`41_poly_lut.md` R123). -/
def poly (rom : CoefRom) (fn : EvalFn) (slot : Slot) (k : Word) : Word :=
  horner (romRead rom fn slot (rowSel rom fn slot k)) k (evaluator rom fn slot).degree

/-- `POLY` of a slot, over the operand `k = opa[31:0]` (`41_poly_lut.md` R129). -/
def runPoly (slot : Slot) (fn : EvalFn) (s : State) : Answer :=
  complete (signedResult (poly s.rom fn slot (wordA s))) s

/-- The state after `LUTRD`: the fault `ROM_INDEX` when the index exceeds the degree, else the
coefficient (`41_poly_lut.md` R130, `60_exceptions.md` R301). -/
def lutrdNext (slot : Slot) (fn : EvalFn) (s : State) : State :=
  if (evaluator s.rom fn slot).degree < (wordB s).toNat then latchFault .romIndex s
  else
    completed
      (signedResult (romRead s.rom fn slot (rowSel s.rom fn slot (wordA s)) (wordB s).toNat)) s

/-! ## Instructions -/

/-- `QMUL30` (`41_poly_lut.md` R125). -/
def execQmul30 (s : State) : Answer :=
  complete (signedResult (qmul30 (wordA s) (wordB s))) s

/-- `FMA30`: operands `k`, `acc`, `c` (`41_poly_lut.md` R126). -/
def execFma30 (s : State) : Answer :=
  complete (signedResult (fma30 (wordA s) (wordB s) (wordC s))) s

/-- `POLY.P` (`41_poly_lut.md` R129). -/
def execPolyP (fn : EvalFn) (s : State) : Answer := runPoly .p fn s

/-- `POLY.F` (`41_poly_lut.md` R129). -/
def execPolyF (fn : EvalFn) (s : State) : Answer := runPoly .f fn s

/-- `POLY.FF` (`41_poly_lut.md` R129). -/
def execPolyFF (fn : EvalFn) (s : State) : Answer := runPoly .ff fn s

/-- `LUTRD.P` (`41_poly_lut.md` R130). -/
def execLutrdP (fn : EvalFn) (s : State) : Answer := .next (lutrdNext .p fn s)

/-- `LUTRD.F` (`41_poly_lut.md` R130). -/
def execLutrdF (fn : EvalFn) (s : State) : Answer := .next (lutrdNext .f fn s)

/-- `LUTRD.FF` (`41_poly_lut.md` R130). -/
def execLutrdFF (fn : EvalFn) (s : State) : Answer := .next (lutrdNext .ff fn s)

end Sys2Proof.Machine
end

