-- ==== Sys2Proof/Machine/DivRoot.lean ====
section
/-! DEFINITION. Division, reciprocal, square root and reciprocal square root: the pipelines and the
instructions `DIV`, `RCP`, `SQRT`, `RSQRT` (`43_div_root_rcp.md`). -/

namespace Sys2Proof.Machine

/-! ## Pipelines -/

/-- The screen of division and reciprocal: the divisor is 0 or `MIN` (`43_div_root_rcp.md` R180). -/
def badDivisor (k : Kernel) (b : Raw k) : Bool := decide (b = 0) || decide (b = minRaw k)

/-- `|s_W(x)|` as a `W`-bit pattern, for `x` other than `MIN` (`43_div_root_rcp.md` R182, R186). -/
def magnitude (k : Kernel) (x : Raw k) : Raw k := BitVec.ofNat k.width x.toInt.natAbs

/-- The K64 exact quotient of a nonzero divisor other than `MIN`: `MAX` when it needs more than 64
bits, whatever the signs, else the signed quotient, wrapping (`43_div_root_rcp.md` R181). -/
def divExact64 (a b : Raw .k64) : Raw .k64 :=
  let ua := a.toInt.natAbs
  let ub := b.toInt.natAbs
  if ub ≤ ua / 2 ^ 32 then maxRaw .k64
  else
    let q : Nat := ua * 2 ^ 32 / ub
    if decide (a.toInt < 0) = decide (b.toInt < 0) then BitVec.ofInt 64 q
    else BitVec.ofInt 64 (-(q : Int))

/-- The K32 exact quotient of a nonzero divisor, truncated toward zero, wrapping
(`43_div_root_rcp.md` R181). -/
def divExact32 (a b : Raw .k32) : Raw .k32 :=
  BitVec.ofInt 32 (tdiv (a.toInt * 2 ^ 16) b.toInt)

/-- `div_exact_K(a, b)`; 0 for a divisor of 0 or `MIN` (`43_div_root_rcp.md` R181,
`90_conflicts.md` C12). -/
def divExact (k : Kernel) (a b : Raw k) : Raw k :=
  if badDivisor k b then 0
  else
    match k, a, b with
    | .k32, a, b => divExact32 a b
    | .k64, a, b => divExact64 a b

/-- The `RCP` evaluator on the mantissa of a divisor's magnitude (`43_div_root_rcp.md` R182, R186). -/
def rcpMant (rom : CoefRom) (k : Kernel) (slot : Slot) (x : Raw k) : Word :=
  poly rom .rcp slot (centred (magnitude k x))

/-- `div_approx_K(slot, a, b)` (`43_div_root_rcp.md` R182). -/
def divApprox (rom : CoefRom) (k : Kernel) (slot : Slot) (a b : Raw k) : Raw k :=
  if badDivisor k b then 0
  else
    let r := rcpMant rom k slot b
    let y : Raw k := BitVec.ofInt k.width (a.toInt * r.toInt / 2 ^ 30)
    let signed := if b.toInt < 0 then negK k y else y
    shr .arithmetic signed (normExp k (magnitude k b))

/-- `rcp_K(slot, x)`: the sign is applied before the rescale (`43_div_root_rcp.md` R186). -/
def rcpK (rom : CoefRom) (k : Kernel) (slot : Slot) (x : Raw k) : Raw k :=
  if badDivisor k x then 0
  else
    let r := rcpMant rom k slot x
    let y : Word := if x.toInt < 0 then BitVec.ofInt 32 (-r.toInt) else r
    toRaw k y (30 - k.frac + normExp k (magnitude k x))

/-- The digits of the integer square root, from bit `b - 1` down: a digit is set when the square of the
root with it does not exceed `n` (`43_div_root_rcp.md` R190). -/
def isqrtDigits (n : Nat) : Nat → Nat → Nat
  | 0, r => r
  | b + 1, r => isqrtDigits n b (if (r + 2 ^ b) * (r + 2 ^ b) ≤ n then r + 2 ^ b else r)

/-- The floor of the square root of a natural number (`43_div_root_rcp.md` R190). -/
def isqrt (n : Nat) : Nat := isqrtDigits n (Nat.log2 n / 2 + 1) 0

/-- `sqrt_exact_K(x)` (`43_div_root_rcp.md` R190). -/
def sqrtExact (k : Kernel) (x : Raw k) : Raw k :=
  if x.toInt ≤ 0 then 0 else BitVec.ofNat k.width (isqrt (x.toNat * 2 ^ k.frac))

/-- The parity correction: a factor for an odd exponent, `ONE` for an even one; the parity is that of a
two's-complement integer (`43_div_root_rcp.md` R191, R196). -/
def parityFactor (odd : S230Const) (e : Int) : Word := if e % 2 = 1 then constS230 odd else oneS230

/-- `sqrt_approx_K(slot, x)` (`43_div_root_rcp.md` R191). -/
def sqrtApprox (rom : CoefRom) (k : Kernel) (slot : Slot) (x : Raw k) : Raw k :=
  if x.toInt ≤ 0 then 0
  else
    let e := normExp k x
    let z := qmul30 (parityFactor .sqrt2 e) (poly rom .sqrt slot (centred x))
    toRaw k z (30 - k.frac - e / 2)

/-- `rsqrt_K(slot, x)` (`43_div_root_rcp.md` R196). -/
def rsqrtK (rom : CoefRom) (k : Kernel) (slot : Slot) (x : Raw k) : Raw k :=
  if x.toInt ≤ 0 then 0
  else
    let e := normExp k x
    let z := qmul30 (parityFactor .halfSqrt2 e) (poly rom .rsqrt slot (centred x))
    toRaw k z (30 - k.frac + e / 2)

/-! ## Instructions -/

/-- `DIV.X` (`43_div_root_rcp.md` R183). -/
def execDivX (k : Kernel) (s : State) : Answer :=
  complete (signedResult (divExact k (opA k s) (opB k s))) s

/-- `DIV.F` (`43_div_root_rcp.md` R184). -/
def execDivF (k : Kernel) (s : State) : Answer :=
  complete (signedResult (divApprox s.rom k .f (opA k s) (opB k s))) s

/-- `DIV.FF` (`43_div_root_rcp.md` R185). -/
def execDivFF (k : Kernel) (s : State) : Answer :=
  complete (signedResult (divApprox s.rom k .ff (opA k s) (opB k s))) s

/-- `RCP.P` (`43_div_root_rcp.md` R187). -/
def execRcpP (k : Kernel) (s : State) : Answer :=
  complete (signedResult (rcpK s.rom k .p (opA k s))) s

/-- `RCP.F` (`43_div_root_rcp.md` R188). -/
def execRcpF (k : Kernel) (s : State) : Answer :=
  complete (signedResult (rcpK s.rom k .f (opA k s))) s

/-- `RCP.FF` (`43_div_root_rcp.md` R189). -/
def execRcpFF (k : Kernel) (s : State) : Answer :=
  complete (signedResult (rcpK s.rom k .ff (opA k s))) s

/-- `SQRT.X` (`43_div_root_rcp.md` R192). -/
def execSqrtX (k : Kernel) (s : State) : Answer :=
  complete (signedResult (sqrtExact k (opA k s))) s

/-- `SQRT.P` (`43_div_root_rcp.md` R193). -/
def execSqrtP (k : Kernel) (s : State) : Answer :=
  complete (signedResult (sqrtApprox s.rom k .p (opA k s))) s

/-- `SQRT.F` (`43_div_root_rcp.md` R194). -/
def execSqrtF (k : Kernel) (s : State) : Answer :=
  complete (signedResult (sqrtApprox s.rom k .f (opA k s))) s

/-- `SQRT.FF` (`43_div_root_rcp.md` R195). -/
def execSqrtFF (k : Kernel) (s : State) : Answer :=
  complete (signedResult (sqrtApprox s.rom k .ff (opA k s))) s

/-- `RSQRT.P` (`43_div_root_rcp.md` R197). -/
def execRsqrtP (k : Kernel) (s : State) : Answer :=
  complete (signedResult (rsqrtK s.rom k .p (opA k s))) s

/-- `RSQRT.F` (`43_div_root_rcp.md` R198). -/
def execRsqrtF (k : Kernel) (s : State) : Answer :=
  complete (signedResult (rsqrtK s.rom k .f (opA k s))) s

/-- `RSQRT.FF` (`43_div_root_rcp.md` R199). -/
def execRsqrtFF (k : Kernel) (s : State) : Answer :=
  complete (signedResult (rsqrtK s.rom k .ff (opA k s))) s

end Sys2Proof.Machine
end

