-- ==== Sys2Proof/Machine/ExpLog.lean ====
section
/-! DEFINITION. Exponential, logarithm and power: the pipelines and the instructions `EXP2`, `EXP`, `LOG2`,
`LOG`, `POW` (`44_exp_log_pow.md`). -/

namespace Sys2Proof.Machine

/-! ## Pipelines -/

/-- `B`, the clamp of the base-2 exponential in whole units: 15 or 32 (`44_exp_log_pow.md` R210,
`90_conflicts.md` C9). -/
def exp2Bound : Kernel → Int
  | .k32 => 15
  | .k64 => 32

/-- `exp2_K(slot, x)`: `MAX` from the bound up, 0 from minus the bound down, else the fraction through
the evaluator and the integer part as a shift (`44_exp_log_pow.md` R210, `90_conflicts.md` C1). -/
def exp2K (rom : CoefRom) (k : Kernel) (slot : Slot) (x : Raw k) : Raw k :=
  if exp2Bound k * 2 ^ k.frac ≤ x.toInt then maxRaw k
  else if x.toInt ≤ -(exp2Bound k * 2 ^ k.frac) then 0
  else
    let ip := x.toInt / 2 ^ k.frac
    let fr := x &&& fracMask k
    let y := poly rom .exp2 slot ((shr .logical fr ((k.frac : Int) - 30)).setWidth 32)
    toRaw k y (30 - k.frac - ip)

/-- `exp_K(slot, x) = exp2_K(slot, mul_K(x, RCP_LN2))` (`44_exp_log_pow.md` R214). -/
def expK (rom : CoefRom) (k : Kernel) (slot : Slot) (x : Raw k) : Raw k :=
  exp2K rom k slot (mulK k x (constRaw k .rcpLn2))

/-- `log2_K(slot, x)` (`44_exp_log_pow.md` R218). -/
def log2K (rom : CoefRom) (k : Kernel) (slot : Slot) (x : Raw k) : Raw k :=
  if x.toInt ≤ 0 then 0
  else
    let y := poly rom .log2 slot (centred x)
    BitVec.ofInt k.width (normExp k x * 2 ^ k.frac + (toRaw k y (30 - k.frac)).toInt)

/-- `ln_K(slot, x)`: the constant `LN2` is folded into the exponent recombination
(`44_exp_log_pow.md` R222). -/
def lnK (rom : CoefRom) (k : Kernel) (slot : Slot) (x : Raw k) : Raw k :=
  if x.toInt ≤ 0 then 0
  else
    let y := poly rom .log slot (centred x)
    BitVec.ofInt k.width
      (normExp k x * (constRaw k .ln2).toInt + (toRaw k y (30 - k.frac)).toInt)

/-- `pow_K(slot, x, p)`: the exponent is tested before the base (`44_exp_log_pow.md` R226). -/
def powK (rom : CoefRom) (k : Kernel) (slot : Slot) (x p : Raw k) : Raw k :=
  if p.toInt = 0 then oneRaw k
  else if x.toInt ≤ 0 then 0
  else expK rom k slot (mulK k p (lnK rom k slot x))

/-! ## Instructions -/

/-- `EXP2.P` (`44_exp_log_pow.md` R211). -/
def execExp2P (k : Kernel) (s : State) : Answer :=
  complete (signedResult (exp2K s.rom k .p (opA k s))) s

/-- `EXP2.F` (`44_exp_log_pow.md` R212). -/
def execExp2F (k : Kernel) (s : State) : Answer :=
  complete (signedResult (exp2K s.rom k .f (opA k s))) s

/-- `EXP2.FF` (`44_exp_log_pow.md` R213). -/
def execExp2FF (k : Kernel) (s : State) : Answer :=
  complete (signedResult (exp2K s.rom k .ff (opA k s))) s

/-- `EXP.P` (`44_exp_log_pow.md` R215). -/
def execExpP (k : Kernel) (s : State) : Answer :=
  complete (signedResult (expK s.rom k .p (opA k s))) s

/-- `EXP.F` (`44_exp_log_pow.md` R216). -/
def execExpF (k : Kernel) (s : State) : Answer :=
  complete (signedResult (expK s.rom k .f (opA k s))) s

/-- `EXP.FF` (`44_exp_log_pow.md` R217). -/
def execExpFF (k : Kernel) (s : State) : Answer :=
  complete (signedResult (expK s.rom k .ff (opA k s))) s

/-- `LOG2.P` (`44_exp_log_pow.md` R219). -/
def execLog2P (k : Kernel) (s : State) : Answer :=
  complete (signedResult (log2K s.rom k .p (opA k s))) s

/-- `LOG2.F` (`44_exp_log_pow.md` R220). -/
def execLog2F (k : Kernel) (s : State) : Answer :=
  complete (signedResult (log2K s.rom k .f (opA k s))) s

/-- `LOG2.FF` (`44_exp_log_pow.md` R221). -/
def execLog2FF (k : Kernel) (s : State) : Answer :=
  complete (signedResult (log2K s.rom k .ff (opA k s))) s

/-- `LOG.P` (`44_exp_log_pow.md` R223). -/
def execLogP (k : Kernel) (s : State) : Answer :=
  complete (signedResult (lnK s.rom k .p (opA k s))) s

/-- `LOG.F` (`44_exp_log_pow.md` R224). -/
def execLogF (k : Kernel) (s : State) : Answer :=
  complete (signedResult (lnK s.rom k .f (opA k s))) s

/-- `LOG.FF` (`44_exp_log_pow.md` R225). -/
def execLogFF (k : Kernel) (s : State) : Answer :=
  complete (signedResult (lnK s.rom k .ff (opA k s))) s

/-- `POW.P` (`44_exp_log_pow.md` R227). -/
def execPowP (k : Kernel) (s : State) : Answer :=
  complete (signedResult (powK s.rom k .p (opA k s) (opB k s))) s

/-- `POW.F` (`44_exp_log_pow.md` R228). -/
def execPowF (k : Kernel) (s : State) : Answer :=
  complete (signedResult (powK s.rom k .f (opA k s) (opB k s))) s

/-- `POW.FF` (`44_exp_log_pow.md` R229). -/
def execPowFF (k : Kernel) (s : State) : Answer :=
  complete (signedResult (powK s.rom k .ff (opA k s) (opB k s))) s

end Sys2Proof.Machine
end

