-- ==== Sys2Proof/Machine/Convert.lean ====
section
/-! DEFINITION. Construction and conversion: `FROMINT` to `CONST` (`42_convert_arith.md` R142 to
R156). -/

namespace Sys2Proof.Machine

/-! ## Floating-point formats -/

/-- The number of fraction bits of the format: 23 or 52 (`42_convert_arith.md` R143, R144). -/
def fracBits : FloatFormat → Nat
  | .binary32 => 23
  | .binary64 => 52

/-- The number of exponent bits of the format: 8 or 11 (`42_convert_arith.md` R143, R144). -/
def expBits : FloatFormat → Nat
  | .binary32 => 8
  | .binary64 => 11

/-- The exponent bias of the format: 127 or 1023 (`42_convert_arith.md` R143, R144). -/
def expBias : FloatFormat → Nat
  | .binary32 => 127
  | .binary64 => 1023

/-- A finite floating-point number: `(-1)^neg * mant * 2^exp`. -/
structure FloatParts where
  neg : Bool
  mant : Nat
  exp : Int
deriving DecidableEq, Repr

/-- The number a pattern stands for, `none` for a NaN or an infinity (`42_convert_arith.md` R143, R144).
The fraction is scaled to an integer: `1.fraction` is `(2^f + fraction) / 2^f`. -/
def floatParts (fmt : FloatFormat) (b : BitVec fmt.width) : Option FloatParts :=
  let fraction := b.toNat % 2 ^ fracBits fmt
  let exponent := b.toNat / 2 ^ fracBits fmt % 2 ^ expBits fmt
  let neg := decide (b.toNat / 2 ^ (fracBits fmt + expBits fmt) = 1)
  if exponent = 2 ^ expBits fmt - 1 then none
  else if exponent = 0 then
    some { neg := neg, mant := fraction, exp := 1 - (expBias fmt : Int) - fracBits fmt }
  else
    some { neg := neg, mant := 2 ^ fracBits fmt + fraction,
           exp := (exponent : Int) - expBias fmt - fracBits fmt }

/-- `trunc(v * 2^F)` of a finite number, rounding toward zero (`42_convert_arith.md` R143). -/
def truncScaled (frac : Nat) (p : FloatParts) : Int :=
  let e := p.exp + frac
  let magnitude : Nat := if 0 ≤ e then p.mant * 2 ^ e.toNat else p.mant / 2 ^ (-e).toNat
  if p.neg then -(magnitude : Int) else (magnitude : Int)

/-- An integer is in the range of the kernel's signed patterns (`42_convert_arith.md` R143). -/
def inRange (k : Kernel) (i : Int) : Bool :=
  decide (-(2 ^ (k.width - 1)) ≤ i) && decide (i ≤ 2 ^ (k.width - 1) - 1)

/-- The fixed-point value of a floating-point pattern: the truncated integer where it is in range, else
the free value `FLOAT_OOR` (`42_convert_arith.md` R143, R144). -/
def fromFloat (k : Kernel) (fmt : FloatFormat) (b : BitVec fmt.width) : Raw k :=
  match floatParts fmt b with
  | none => Config.floatOor k fmt b
  | some p =>
    if inRange k (truncScaled k.frac p) then BitVec.ofInt k.width (truncScaled k.frac p)
    else Config.floatOor k fmt b

/-- A natural number divided by `2^sh`, rounded to the nearest integer, ties to even
(`42_convert_arith.md` R148). -/
def roundShift (m sh : Nat) : Nat :=
  let q := m / 2 ^ sh
  let r := m % 2 ^ sh
  if 2 ^ sh < 2 * r ∨ (2 * r = 2 ^ sh ∧ q % 2 = 1) then q + 1 else q

/-- The significand of a magnitude `m > 0` at the format's precision, leading 1 included, rounded to
nearest even; it is `2^(f+1)` when the rounding carries out (`42_convert_arith.md` R148). -/
def significand (fmt : FloatFormat) (m : Nat) : Nat :=
  if Nat.log2 m ≤ fracBits fmt then m * 2 ^ (fracBits fmt - Nat.log2 m)
  else roundShift m (Nat.log2 m - fracBits fmt)

/-- The pattern of the format nearest to `i / 2^F`, ties to even, as a number (`42_convert_arith.md`
R148, R149). Adding the significand less its leading 1 to the shifted exponent lets a carry out of the
rounding raise the exponent. Zero is `+0`. -/
def toFloat (fmt : FloatFormat) (frac : Nat) (i : Int) : Nat :=
  let m := i.natAbs
  if m = 0 then 0
  else
    let exponent := Nat.log2 m + expBias fmt - frac
    let sign := if i < 0 then 2 ^ (fracBits fmt + expBits fmt) else 0
    sign + exponent * 2 ^ fracBits fmt + (significand fmt m - 2 ^ fracBits fmt)

/-! ## Integers and ratios -/

/-- `wrap_W(tdiv(a * 2^F, d))`, 0 for `d = 0` (`42_convert_arith.md` R150 to R153). -/
def ratioK (k : Kernel) (a d : Int) : Raw k :=
  if d = 0 then 0 else BitVec.ofInt k.width (tdiv (a * 2 ^ k.frac) d)

/-! ## Instructions -/

/-- `FROMINT`: a signed 32-bit integer for both kernels (`42_convert_arith.md` R142). -/
def execFromint (k : Kernel) (s : State) : Answer :=
  complete (signedResult (BitVec.ofInt k.width ((wordA s).toInt * 2 ^ k.frac))) s

/-- `FROMF32` (`42_convert_arith.md` R143). -/
def execFromf32 (k : Kernel) (s : State) : Answer :=
  complete (signedResult (fromFloat k .binary32 (wordA s))) s

/-- `FROMF64`: the whole 64-bit port (`42_convert_arith.md` R144). -/
def execFromf64 (k : Kernel) (s : State) : Answer :=
  complete (signedResult (fromFloat k .binary64 s.port.opa)) s

/-- `TOINTF`: rounding down (`42_convert_arith.md` R145). -/
def execTointf (k : Kernel) (s : State) : Answer :=
  complete (signedResult (shr .arithmetic (opA k s) k.frac)) s

/-- `TOINTC`: rounding up, the addition wrapping (`42_convert_arith.md` R146). -/
def execTointc (k : Kernel) (s : State) : Answer :=
  complete (signedResult (shr .arithmetic (opA k s + fracMask k) k.frac)) s

/-- `TOINTR`: nearest, ties upward, the addition wrapping (`42_convert_arith.md` R147). -/
def execTointr (k : Kernel) (s : State) : Answer :=
  complete (signedResult (shr .arithmetic (opA k s + halfRaw k) k.frac)) s

/-- `TOF32` (`42_convert_arith.md` R148). -/
def execTof32 (k : Kernel) (s : State) : Answer :=
  complete (BitVec.ofNat 64 (toFloat .binary32 k.frac (opA k s).toInt)) s

/-- `TOF64` (`42_convert_arith.md` R149). -/
def execTof64 (k : Kernel) (s : State) : Answer :=
  complete (BitVec.ofNat 64 (toFloat .binary64 k.frac (opA k s).toInt)) s

/-- `RATIO`: signed 32-bit integers, 0 for a denominator of 0 (`42_convert_arith.md` R150). -/
def execRatio (k : Kernel) (s : State) : Answer :=
  complete (signedResult (ratioK k (wordA s).toInt (wordB s).toInt)) s

/-- `RATIO10` (`42_convert_arith.md` R151). -/
def execRatio10 (k : Kernel) (s : State) : Answer :=
  complete (signedResult (ratioK k (wordA s).toInt 10)) s

/-- `RATIO100` (`42_convert_arith.md` R152). -/
def execRatio100 (k : Kernel) (s : State) : Answer :=
  complete (signedResult (ratioK k (wordA s).toInt 100)) s

/-- `RATIO1000` (`42_convert_arith.md` R153). -/
def execRatio1000 (k : Kernel) (s : State) : Answer :=
  complete (signedResult (ratioK k (wordA s).toInt 1000)) s

/-- A K32 value as a K64 value, exact (`42_convert_arith.md` R154). -/
def widenRaw (v : Raw .k32) : Raw .k64 := BitVec.ofInt 64 (v.toInt * 2 ^ 16)

/-- `WIDEN` (`42_convert_arith.md` R154). -/
def execWiden (s : State) : Answer :=
  complete (widenRaw (opA .k32 s)) s

/-- `NARROW`: raises `NOT_IMPLEMENTED` on every execution, whatever the operand
(`42_convert_arith.md` R155, `60_exceptions.md` R302). -/
def execNarrow (s : State) : Answer :=
  raiseFault .notImplemented s

/-- The result of `CONST` (`42_convert_arith.md` R156). The word of an s2.30 constant has `K = 0`
(`30_encoding.md` R62), and its value does not depend on the kernel. -/
def constResult (k : Kernel) : ConstName → Port
  | .kernel c => signedResult (constRaw k c)
  | .s230 c => signedResult (constS230 c)

/-- `CONST` (`42_convert_arith.md` R156). -/
def execConst (k : Kernel) (id : ConstName) (s : State) : Answer :=
  complete (constResult k id) s

end Sys2Proof.Machine
end

