-- ==== Sys2Proof/Machine/Trig.lean ====
section
/-! DEFINITION. The angle pipelines and the instructions `SIN`, `COS`, `TAN`, `ATAN2`, `ATAN`, `ASIN`,
`ACOS` (`45_trig.md`). -/

namespace Sys2Proof.Machine

/-! ## Sine, cosine, tangent -/

/-- `reduce_K(x)`: the angle in quarter turns, s2.30, modulo a full turn (`45_trig.md` R230). -/
def reduceK (k : Kernel) (x : Raw k) : Word :=
  BitVec.ofInt 32 (x.toInt * (constS230 .rcpHalfPi).toInt / 2 ^ k.frac)

/-- The quadrant mirror: where bits 31 and 30 differ, `z` becomes `2^31 - z` (`45_trig.md` R231). -/
def mirror (z : Word) : Word :=
  if (z ^^^ BitVec.ofInt 32 (z.toInt * 2)).toInt < 0 then BitVec.ofInt 32 (2 ^ 31 - z.toInt) else z

/-- `sincore(slot, z)`: the mirror and the odd polynomial (`45_trig.md` R231). -/
def sincore (rom : CoefRom) (slot : Slot) (z : Word) : Word :=
  let m := mirror z
  qmul30 (poly rom .sin slot (qmul30 m m)) m

/-- A sine of a reduced angle, in the kernel's format (`45_trig.md` R232, R240). -/
def sineOf (rom : CoefRom) (k : Kernel) (slot : Slot) (z : Word) : Raw k :=
  toRaw k (sincore rom slot z) (30 - k.frac)

/-- `sin_K(slot, x)` (`45_trig.md` R232). -/
def sinK (rom : CoefRom) (k : Kernel) (slot : Slot) (x : Raw k) : Raw k :=
  sineOf rom k slot (reduceK k x)

/-- `cos_K(slot, x)`: the raw `PIHALF` is added, wrapping, before the reduction (`45_trig.md` R236). -/
def cosK (rom : CoefRom) (k : Kernel) (slot : Slot) (x : Raw k) : Raw k :=
  sinK rom k slot (addK k x (constRaw k .piHalf))

/-- `tan_K(slot, x)`: sine and cosine of one reduced angle, divided by the exact divider for slot `P`
and by the approximate divider of the same slot else (`45_trig.md` R240). -/
def tanK (rom : CoefRom) (k : Kernel) (slot : Slot) (x : Raw k) : Raw k :=
  let z := reduceK k x
  let sn := sineOf rom k slot z
  let cs := sineOf rom k slot (z + oneS230)
  match slot with
  | .p => divExact k sn cs
  | .f => divApprox rom k .f sn cs
  | .ff => divApprox rom k .ff sn cs

/-! ## Inverse functions -/

/-- `atan2div_K(slot, num, den)`: the quotient in s2.30; both operands are shifted by the same amount
(`45_trig.md` R244). -/
def atan2div (rom : CoefRom) (k : Kernel) (slot : Slot) (num den : Raw k) : Word :=
  let sh := msbIndex den - 30
  let n : Word := (shr .logical den sh).setWidth 32
  let r := poly rom .rcp slot (n - oneS230)
  let ns : Word := (shr .logical num sh).setWidth 32
  qmul30 ns r

/-- The sign mask `x >>a (W-1)`: all ones for a negative pattern, else 0 (`45_trig.md` R245). -/
def signMask (k : Kernel) (x : Raw k) : Raw k :=
  BitVec.ofInt k.width (x.toInt / 2 ^ (k.width - 1))

/-- The one's-complement absolute value, `x XOR (x >>a (W-1))` (`45_trig.md` R245). -/
def onesAbs (k : Kernel) (x : Raw k) : Raw k := x ^^^ signMask k x

/-- The angle of a quotient, with the one's-complement negation where the signs of the operands differ
(`45_trig.md` R245). -/
def octantAngle (rom : CoefRom) (k : Kernel) (slot : Slot) (x y : Raw k) (q : Word) : Raw k :=
  signMask k (x ^^^ y) ^^^ toRaw k (poly rom .atan slot q) (30 - k.frac)

/-- `atan2_K(slot, y, x)`, the primitive (`45_trig.md` R245). -/
def atan2K (rom : CoefRom) (k : Kernel) (slot : Slot) (y x : Raw k) : Raw k :=
  if x.toInt = 0 then
    if 0 < y.toInt then constRaw k .piHalf
    else if y.toInt < 0 then negK k (constRaw k .piHalf)
    else 0
  else
    let nx := onesAbs k x
    let ny := onesAbs k y
    if ny.toNat ≤ nx.toNat then
      let ang := octantAngle rom k slot x y (atan2div rom k slot ny nx)
      if 0 < x.toInt then ang
      else if 0 ≤ y.toInt then addK k ang (constRaw k .pi)
      else subK k ang (constRaw k .pi)
    else
      let ang := octantAngle rom k slot x y (atan2div rom k slot nx ny)
      if 0 < y.toInt then subK k (constRaw k .piHalf) ang
      else subK k (negK k (constRaw k .piHalf)) ang

/-- `atan_K(slot, x)`: the primitive with raw 1.0 as its second operand (`45_trig.md` R249). -/
def atanK (rom : CoefRom) (k : Kernel) (slot : Slot) (x : Raw k) : Raw k :=
  atan2K rom k slot x (oneRaw k)

/-- The root of `(1 + x)(1 - x)` in K64 (`45_trig.md` R253). -/
def complementRoot (rom : CoefRom) (slot : Slot) (x : Raw .k64) : Raw .k64 :=
  sqrtApprox rom .k64 slot
    (mulK .k64 (addK .k64 (oneRaw .k64) x) (subK .k64 (oneRaw .k64) x))

/-- `asin64(slot, x)` (`45_trig.md` R253). -/
def asin64 (rom : CoefRom) (slot : Slot) (x : Raw .k64) : Raw .k64 :=
  atan2K rom .k64 slot x (complementRoot rom slot x)

/-- `acos64(slot, x)`: the same call with the operands exchanged (`45_trig.md` R253). -/
def acos64 (rom : CoefRom) (slot : Slot) (x : Raw .k64) : Raw .k64 :=
  atan2K rom .k64 slot (complementRoot rom slot x) x

/-- A K64 function run for either kernel: a K32 operand is promoted, the whole pipeline runs in K64, and
the result is shifted back by 16 toward minus infinity (`45_trig.md` R253). -/
def viaK64 (k : Kernel) (fn : Raw .k64 → Raw .k64) (x : Raw k) : Raw k :=
  match k, x with
  | .k32, x => (shr .arithmetic (fn (widenRaw x)) 16).setWidth 32
  | .k64, x => fn x

/-- The domain of the inverse sine and cosine: `-one <= x <= one` (`45_trig.md` R253). -/
def inUnit (k : Kernel) (x : Raw k) : Bool :=
  decide (-(2 ^ k.frac) ≤ x.toInt) && decide (x.toInt ≤ 2 ^ k.frac)

/-- `asin_K(slot, x)`: 0 outside the domain (`45_trig.md` R253). -/
def asinK (rom : CoefRom) (k : Kernel) (slot : Slot) (x : Raw k) : Raw k :=
  if inUnit k x then viaK64 k (asin64 rom slot) x else 0

/-- `acos_K(slot, x)`: 0 outside the domain (`45_trig.md` R253). -/
def acosK (rom : CoefRom) (k : Kernel) (slot : Slot) (x : Raw k) : Raw k :=
  if inUnit k x then viaK64 k (acos64 rom slot) x else 0

/-! ## Instructions -/

/-- `SIN.P` (`45_trig.md` R233). -/
def execSinP (k : Kernel) (s : State) : Answer :=
  complete (signedResult (sinK s.rom k .p (opA k s))) s

/-- `SIN.F` (`45_trig.md` R234). -/
def execSinF (k : Kernel) (s : State) : Answer :=
  complete (signedResult (sinK s.rom k .f (opA k s))) s

/-- `SIN.FF` (`45_trig.md` R235). -/
def execSinFF (k : Kernel) (s : State) : Answer :=
  complete (signedResult (sinK s.rom k .ff (opA k s))) s

/-- `COS.P` (`45_trig.md` R237). -/
def execCosP (k : Kernel) (s : State) : Answer :=
  complete (signedResult (cosK s.rom k .p (opA k s))) s

/-- `COS.F` (`45_trig.md` R238). -/
def execCosF (k : Kernel) (s : State) : Answer :=
  complete (signedResult (cosK s.rom k .f (opA k s))) s

/-- `COS.FF` (`45_trig.md` R239). -/
def execCosFF (k : Kernel) (s : State) : Answer :=
  complete (signedResult (cosK s.rom k .ff (opA k s))) s

/-- `TAN.P` (`45_trig.md` R241). -/
def execTanP (k : Kernel) (s : State) : Answer :=
  complete (signedResult (tanK s.rom k .p (opA k s))) s

/-- `TAN.F` (`45_trig.md` R242). -/
def execTanF (k : Kernel) (s : State) : Answer :=
  complete (signedResult (tanK s.rom k .f (opA k s))) s

/-- `TAN.FF` (`45_trig.md` R243). -/
def execTanFF (k : Kernel) (s : State) : Answer :=
  complete (signedResult (tanK s.rom k .ff (opA k s))) s

/-- `ATAN2.P` (`45_trig.md` R246). -/
def execAtan2P (k : Kernel) (s : State) : Answer :=
  complete (signedResult (atan2K s.rom k .p (opA k s) (opB k s))) s

/-- `ATAN2.F` (`45_trig.md` R247). -/
def execAtan2F (k : Kernel) (s : State) : Answer :=
  complete (signedResult (atan2K s.rom k .f (opA k s) (opB k s))) s

/-- `ATAN2.FF` (`45_trig.md` R248). -/
def execAtan2FF (k : Kernel) (s : State) : Answer :=
  complete (signedResult (atan2K s.rom k .ff (opA k s) (opB k s))) s

/-- `ATAN.P` (`45_trig.md` R250). -/
def execAtanP (k : Kernel) (s : State) : Answer :=
  complete (signedResult (atanK s.rom k .p (opA k s))) s

/-- `ATAN.F` (`45_trig.md` R251). -/
def execAtanF (k : Kernel) (s : State) : Answer :=
  complete (signedResult (atanK s.rom k .f (opA k s))) s

/-- `ATAN.FF` (`45_trig.md` R252). -/
def execAtanFF (k : Kernel) (s : State) : Answer :=
  complete (signedResult (atanK s.rom k .ff (opA k s))) s

/-- `ASIN.P` (`45_trig.md` R254). -/
def execAsinP (k : Kernel) (s : State) : Answer :=
  complete (signedResult (asinK s.rom k .p (opA k s))) s

/-- `ASIN.F` (`45_trig.md` R255). -/
def execAsinF (k : Kernel) (s : State) : Answer :=
  complete (signedResult (asinK s.rom k .f (opA k s))) s

/-- `ASIN.FF` (`45_trig.md` R256). -/
def execAsinFF (k : Kernel) (s : State) : Answer :=
  complete (signedResult (asinK s.rom k .ff (opA k s))) s

/-- `ACOS.P` (`45_trig.md` R257). -/
def execAcosP (k : Kernel) (s : State) : Answer :=
  complete (signedResult (acosK s.rom k .p (opA k s))) s

/-- `ACOS.F` (`45_trig.md` R258). -/
def execAcosF (k : Kernel) (s : State) : Answer :=
  complete (signedResult (acosK s.rom k .f (opA k s))) s

/-- `ACOS.FF` (`45_trig.md` R259). -/
def execAcosFF (k : Kernel) (s : State) : Answer :=
  complete (signedResult (acosK s.rom k .ff (opA k s))) s

end Sys2Proof.Machine
end

