-- ==== Sys2Proof/Machine/Dispatch.lean ====
section
/-! DEFINITION. The dispatch: one arm per instruction, each a direct call of its meaning. -/

namespace Sys2Proof.Machine

/-- What an instruction does on a running unit whose sampled command is `s.port`
(`30_encoding.md` R66, `00_scope.md` R14). -/
def exec (i : Instr) (s : State) : Host.Outcome State Fault Refusal :=
  match i with
  | .clz k => Sys2Proof.Machine.execClz k s
  | .shrL k => Sys2Proof.Machine.execShrL k s
  | .shrA k => Sys2Proof.Machine.execShrA k s
  | .norm k => Sys2Proof.Machine.execNorm k s
  | .qmul30 => Sys2Proof.Machine.execQmul30 s
  | .fma30 => Sys2Proof.Machine.execFma30 s
  | .polyP fn => Sys2Proof.Machine.execPolyP fn s
  | .polyF fn => Sys2Proof.Machine.execPolyF fn s
  | .polyFF fn => Sys2Proof.Machine.execPolyFF fn s
  | .lutrdP fn => Sys2Proof.Machine.execLutrdP fn s
  | .lutrdF fn => Sys2Proof.Machine.execLutrdF fn s
  | .lutrdFF fn => Sys2Proof.Machine.execLutrdFF fn s
  | .fromint k => Sys2Proof.Machine.execFromint k s
  | .fromf32 k => Sys2Proof.Machine.execFromf32 k s
  | .fromf64 k => Sys2Proof.Machine.execFromf64 k s
  | .tointf k => Sys2Proof.Machine.execTointf k s
  | .tointc k => Sys2Proof.Machine.execTointc k s
  | .tointr k => Sys2Proof.Machine.execTointr k s
  | .tof32 k => Sys2Proof.Machine.execTof32 k s
  | .tof64 k => Sys2Proof.Machine.execTof64 k s
  | .ratio k => Sys2Proof.Machine.execRatio k s
  | .ratio10 k => Sys2Proof.Machine.execRatio10 k s
  | .ratio100 k => Sys2Proof.Machine.execRatio100 k s
  | .ratio1000 k => Sys2Proof.Machine.execRatio1000 k s
  | .widen => Sys2Proof.Machine.execWiden s
  | .narrow => Sys2Proof.Machine.execNarrow s
  | .const k id => Sys2Proof.Machine.execConst k id s
  | .add k => Sys2Proof.Machine.execAdd k s
  | .sub k => Sys2Proof.Machine.execSub k s
  | .neg k => Sys2Proof.Machine.execNeg k s
  | .mul k => Sys2Proof.Machine.execMul k s
  | .mod k => Sys2Proof.Machine.execMod k s
  | .cmpeq k => Sys2Proof.Machine.execCmpeq k s
  | .cmpne k => Sys2Proof.Machine.execCmpne k s
  | .cmplt k => Sys2Proof.Machine.execCmplt k s
  | .cmple k => Sys2Proof.Machine.execCmple k s
  | .cmpgt k => Sys2Proof.Machine.execCmpgt k s
  | .cmpge k => Sys2Proof.Machine.execCmpge k s
  | .min k => Sys2Proof.Machine.execMin k s
  | .max k => Sys2Proof.Machine.execMax k s
  | .clamp k => Sys2Proof.Machine.execClamp k s
  | .lerp k => Sys2Proof.Machine.execLerp k s
  | .floor k => Sys2Proof.Machine.execFloor k s
  | .ceil k => Sys2Proof.Machine.execCeil k s
  | .round k => Sys2Proof.Machine.execRound k s
  | .fract k => Sys2Proof.Machine.execFract k s
  | .divX k => Sys2Proof.Machine.execDivX k s
  | .divF k => Sys2Proof.Machine.execDivF k s
  | .divFF k => Sys2Proof.Machine.execDivFF k s
  | .rcpP k => Sys2Proof.Machine.execRcpP k s
  | .rcpF k => Sys2Proof.Machine.execRcpF k s
  | .rcpFF k => Sys2Proof.Machine.execRcpFF k s
  | .sqrtX k => Sys2Proof.Machine.execSqrtX k s
  | .sqrtP k => Sys2Proof.Machine.execSqrtP k s
  | .sqrtF k => Sys2Proof.Machine.execSqrtF k s
  | .sqrtFF k => Sys2Proof.Machine.execSqrtFF k s
  | .rsqrtP k => Sys2Proof.Machine.execRsqrtP k s
  | .rsqrtF k => Sys2Proof.Machine.execRsqrtF k s
  | .rsqrtFF k => Sys2Proof.Machine.execRsqrtFF k s
  | .exp2P k => Sys2Proof.Machine.execExp2P k s
  | .exp2F k => Sys2Proof.Machine.execExp2F k s
  | .exp2FF k => Sys2Proof.Machine.execExp2FF k s
  | .expP k => Sys2Proof.Machine.execExpP k s
  | .expF k => Sys2Proof.Machine.execExpF k s
  | .expFF k => Sys2Proof.Machine.execExpFF k s
  | .log2P k => Sys2Proof.Machine.execLog2P k s
  | .log2F k => Sys2Proof.Machine.execLog2F k s
  | .log2FF k => Sys2Proof.Machine.execLog2FF k s
  | .logP k => Sys2Proof.Machine.execLogP k s
  | .logF k => Sys2Proof.Machine.execLogF k s
  | .logFF k => Sys2Proof.Machine.execLogFF k s
  | .powP k => Sys2Proof.Machine.execPowP k s
  | .powF k => Sys2Proof.Machine.execPowF k s
  | .powFF k => Sys2Proof.Machine.execPowFF k s
  | .sinP k => Sys2Proof.Machine.execSinP k s
  | .sinF k => Sys2Proof.Machine.execSinF k s
  | .sinFF k => Sys2Proof.Machine.execSinFF k s
  | .cosP k => Sys2Proof.Machine.execCosP k s
  | .cosF k => Sys2Proof.Machine.execCosF k s
  | .cosFF k => Sys2Proof.Machine.execCosFF k s
  | .tanP k => Sys2Proof.Machine.execTanP k s
  | .tanF k => Sys2Proof.Machine.execTanF k s
  | .tanFF k => Sys2Proof.Machine.execTanFF k s
  | .atan2P k => Sys2Proof.Machine.execAtan2P k s
  | .atan2F k => Sys2Proof.Machine.execAtan2F k s
  | .atan2FF k => Sys2Proof.Machine.execAtan2FF k s
  | .atanP k => Sys2Proof.Machine.execAtanP k s
  | .atanF k => Sys2Proof.Machine.execAtanF k s
  | .atanFF k => Sys2Proof.Machine.execAtanFF k s
  | .asinP k => Sys2Proof.Machine.execAsinP k s
  | .asinF k => Sys2Proof.Machine.execAsinF k s
  | .asinFF k => Sys2Proof.Machine.execAsinFF k s
  | .acosP k => Sys2Proof.Machine.execAcosP k s
  | .acosF k => Sys2Proof.Machine.execAcosF k s
  | .acosFF k => Sys2Proof.Machine.execAcosFF k s

end Sys2Proof.Machine
end

