-- ==== Sys2Proof/Machine/Fetch.lean ====
section
/-! DEFINITION. Taking the next event of the host: an accepted command is checked and executed in the
order of `60_exceptions.md` R305. -/

namespace Sys2Proof.Machine

/-- What the unit does with the command it has just sampled: while halted, the halted response, without
decoding; an illegal word, the fault `ILLEGAL_COMMAND`; else the instruction (`60_exceptions.md` R304,
R305). -/
def execCommand (s : State) : Answer :=
  if s.flt ≠ .none then answerHalted s
  else
    match decode s.port.word with
    | .error _ => raiseFault .illegalCommand s
    | .ok i => exec i s

/-- What the unit does next: nothing when the host presents nothing, for the idle unit holds `FLT` and
changes nothing (`70_reset_and_hazards.md` R336); a reset (R330); or a command, accepted and answered at
once (R334, `20_memory.md` R48). -/
def takeEvent (s : State) : Answer :=
  match s.host with
  | [] => .next s
  | .reset _ :: rest => .next (applyReset rest s)
  | .command c :: rest => execCommand (accept c rest s)

/-- The word of an instruction of `nbits` bits, every bit above them 0 (`30_encoding.md` R60). -/
def tableWord (nbits w : Nat) : Word := BitVec.ofNat 32 (w % 2 ^ nbits)

/-- The state in which the host presents the word next, on a running unit, with the operands the ports
carry. Log entry 12. -/
def presentWord (s : State) (w : Word) : State :=
  { s with flt := .none, host := .command { s.port with word := w } :: s.host }

end Sys2Proof.Machine
end

