-- ==== Sys2Proof/Machine/Step.lean ====
section
/-! DEFINITION. One step of the machine: one event of the host's list. -/

namespace Sys2Proof.Machine

/-- One step: the next event the host presents (`00_scope.md` R14, `70_reset_and_hazards.md` R336). -/
def step (s : State) : Host.Outcome State Fault Refusal := takeEvent s

/-- The state in which the very next step runs the instruction of `nbits` bits whose number is `w`: its
word is the next command the host presents, and the unit is running. It stands for the host presenting
a command; a program is never loaded into the unit (`10_state.md` R22). Log entry 12. -/
def State.withFetchWord (s : State) (nbits w : Nat) : State := presentWord s (tableWord nbits w)

end Sys2Proof.Machine
end

