-- ==== Sys2Proof/Safety.lean ====
section
/-! DEFINITION. What claims say of a unit: running or halted, a usable response, and the invariant of the
unit's history. -/

namespace Sys2Proof.Machine

/-- The unit is running (`10_state.md` R24). -/
def State.running (s : State) : Prop := s.flt = .none

/-- A response a host may use (`10_state.md` R21, `60_exceptions.md` R304). -/
def Response.usable (r : Response) : Prop := r.flt = .none

/-- A response with a fault code carries the result 0 (`10_state.md` R21, `60_exceptions.md` R304). -/
def Response.honest (r : Response) : Prop := r.flt ≠ .none → r.res = 0

/-- A halted unit has said so: the last response it delivered is the halted response of its latch
(`60_exceptions.md` R304). -/
def State.latchReported (s : State) : Prop :=
  s.flt ≠ .none → s.responses.getLast? = some { flt := s.flt, res := 0 }

/-- The invariant of a unit's history: the ROM is a legal configuration (`41_poly_lut.md` R127), every
response delivered is honest, and a halted unit has reported its latch. -/
def State.Inv (s : State) : Prop :=
  romWf s.rom = true ∧ (∀ r ∈ s.responses, r.honest) ∧ s.latchReported

end Sys2Proof.Machine
end

