-- ==== Sys2Proof/Certificates/Slice0/Terms.lean ====
section
/-! DEFINITION. The terms the statements use: the opcode map of `30_encoding.md` R66 as a table, the value
of a floating-point pattern as a rational, and the shape of a statement about one tier. -/

namespace Sys2Proof.Claims

open Sys2Proof
open Sys2Proof.Machine

/-! ## The opcode map of R66, as a table -/

/-- The operand classes: none, `opa`, `opa` and `opb`, all three (`30_encoding.md` R61). -/
inductive OperandClass where
  | n
  | u
  | b
  | t
deriving DecidableEq, Repr

/-- One row of the opcode map: the `OP`, the operand class, and the legal values of `K`, `TIER`, `MODE`
and `SEL`, the last for `K = 0` and for `K = 1` (`30_encoding.md` R66). -/
structure MapRow where
  op : Nat
  cls : OperandClass
  ks : List Nat
  tiers : List Nat
  modes : List Nat
  sels0 : List Nat
  sels1 : List Nat
deriving DecidableEq, Repr

/-- The opcode map (`30_encoding.md` R66), in its order. -/
def opcodeMap : List MapRow := [
  ⟨0x01, .u, [0, 1], [0], [0], [0], [0]⟩,
  ⟨0x02, .b, [0, 1], [0], [0, 1], [0], [0]⟩,
  ⟨0x03, .u, [0, 1], [0], [0], [0], [0]⟩,
  ⟨0x10, .b, [0], [0], [0], [0], [0]⟩,
  ⟨0x11, .t, [0], [0], [0], [0], [0]⟩,
  ⟨0x12, .u, [0], [1, 2, 3], [0], List.range 8, List.range 8⟩,
  ⟨0x13, .b, [0], [1, 2, 3], [0], List.range 8, List.range 8⟩,
  ⟨0x20, .u, [0, 1], [0], [0], [0], [0]⟩,
  ⟨0x21, .u, [0, 1], [0], [0], [0], [0]⟩,
  ⟨0x22, .u, [0, 1], [0], [0], [0], [0]⟩,
  ⟨0x23, .u, [0, 1], [0], [0], [0], [0]⟩,
  ⟨0x24, .u, [0, 1], [0], [0], [0], [0]⟩,
  ⟨0x25, .u, [0, 1], [0], [0], [0], [0]⟩,
  ⟨0x26, .u, [0, 1], [0], [0], [0], [0]⟩,
  ⟨0x27, .u, [0, 1], [0], [0], [0], [0]⟩,
  ⟨0x28, .b, [0, 1], [0], [0], [0], [0]⟩,
  ⟨0x29, .u, [0, 1], [0], [0], [0], [0]⟩,
  ⟨0x2A, .u, [0, 1], [0], [0], [0], [0]⟩,
  ⟨0x2B, .u, [0, 1], [0], [0], [0], [0]⟩,
  ⟨0x2C, .u, [0], [0], [0], [0], [0]⟩] ++ [
  ⟨0x2D, .u, [1], [0], [0], [0], [0]⟩,
  ⟨0x2E, .n, [0, 1], [0], [0], List.range 15 ++ [16, 17, 18, 19], List.range 15⟩,
  ⟨0x30, .b, [0, 1], [0], [0], [0], [0]⟩,
  ⟨0x31, .b, [0, 1], [0], [0], [0], [0]⟩,
  ⟨0x32, .u, [0, 1], [0], [0], [0], [0]⟩,
  ⟨0x33, .b, [0, 1], [0], [0], [0], [0]⟩,
  ⟨0x34, .b, [0, 1], [0], [0], [0], [0]⟩,
  ⟨0x40, .b, [0, 1], [0], [0], [0], [0]⟩,
  ⟨0x41, .b, [0, 1], [0], [0], [0], [0]⟩,
  ⟨0x42, .b, [0, 1], [0], [0], [0], [0]⟩,
  ⟨0x43, .b, [0, 1], [0], [0], [0], [0]⟩,
  ⟨0x44, .b, [0, 1], [0], [0], [0], [0]⟩,
  ⟨0x45, .b, [0, 1], [0], [0], [0], [0]⟩,
  ⟨0x46, .b, [0, 1], [0], [0], [0], [0]⟩,
  ⟨0x47, .b, [0, 1], [0], [0], [0], [0]⟩,
  ⟨0x48, .t, [0, 1], [0], [0], [0], [0]⟩,
  ⟨0x49, .t, [0, 1], [0], [0], [0], [0]⟩,
  ⟨0x50, .u, [0, 1], [0], [0], [0], [0]⟩,
  ⟨0x51, .u, [0, 1], [0], [0], [0], [0]⟩,
  ⟨0x52, .u, [0, 1], [0], [0], [0], [0]⟩] ++ [
  ⟨0x53, .u, [0, 1], [0], [0], [0], [0]⟩,
  ⟨0x60, .b, [0, 1], [0, 2, 3], [0], [0], [0]⟩,
  ⟨0x61, .u, [0, 1], [1, 2, 3], [0], [0], [0]⟩,
  ⟨0x62, .u, [0, 1], [0, 1, 2, 3], [0], [0], [0]⟩,
  ⟨0x63, .u, [0, 1], [1, 2, 3], [0], [0], [0]⟩,
  ⟨0x70, .u, [0, 1], [1, 2, 3], [0], [0], [0]⟩,
  ⟨0x71, .u, [0, 1], [1, 2, 3], [0], [0], [0]⟩,
  ⟨0x72, .u, [0, 1], [1, 2, 3], [0], [0], [0]⟩,
  ⟨0x73, .u, [0, 1], [1, 2, 3], [0], [0], [0]⟩,
  ⟨0x74, .b, [0, 1], [1, 2, 3], [0], [0], [0]⟩,
  ⟨0x80, .u, [0, 1], [1, 2, 3], [0], [0], [0]⟩,
  ⟨0x81, .u, [0, 1], [1, 2, 3], [0], [0], [0]⟩,
  ⟨0x82, .u, [0, 1], [1, 2, 3], [0], [0], [0]⟩,
  ⟨0x84, .b, [0, 1], [1, 2, 3], [0], [0], [0]⟩,
  ⟨0x85, .u, [0, 1], [1, 2, 3], [0], [0], [0]⟩,
  ⟨0x86, .u, [0, 1], [1, 2, 3], [0], [0], [0]⟩,
  ⟨0x87, .u, [0, 1], [1, 2, 3], [0], [0], [0]⟩]

/-- The `OP` field of a word (`30_encoding.md` R61). -/
def opField (w : Word) : Nat := w.toNat % 2 ^ 8

/-- The `K` field of a word (`30_encoding.md` R61). -/
def kField (w : Word) : Nat := w.toNat / 2 ^ 8 % 2

/-- The `TIER` field of a word (`30_encoding.md` R61). -/
def tierField (w : Word) : Nat := w.toNat / 2 ^ 9 % 4

/-- The `MODE` field of a word (`30_encoding.md` R61). -/
def modeField (w : Word) : Nat := w.toNat / 2 ^ 11 % 2

/-- The `SEL` field of a word (`30_encoding.md` R61). -/
def selField (w : Word) : Nat := w.toNat / 2 ^ 12 % 32

/-- The `ZERO` field of a word (`30_encoding.md` R61). -/
def zeroField (w : Word) : Nat := w.toNat / 2 ^ 17

/-- A row of the map lists the word's fields (`30_encoding.md` R69). -/
def rowAllows (w : Word) (row : MapRow) : Prop :=
  opField w = row.op ∧ kField w ∈ row.ks ∧ tierField w ∈ row.tiers ∧ modeField w ∈ row.modes ∧
    selField w ∈ (if kField w = 0 then row.sels0 else row.sels1)

/-- A word is legal: `ZERO` is 0 and a row of the map lists its fields; every other word is illegal
(`30_encoding.md` R69). -/
def legalWord (w : Word) : Prop := zeroField w = 0 ∧ ∃ row ∈ opcodeMap, rowAllows w row

/-- Two commands agree on the ports an operand class reads (`30_encoding.md` R61). -/
def agreeOn (cls : OperandClass) (c d : Command) : Prop :=
  match cls with
  | .n => True
  | .u => c.opa = d.opa
  | .b => c.opa = d.opa ∧ c.opb = d.opb
  | .t => c.opa = d.opa ∧ c.opb = d.opb ∧ c.opc = d.opc

/-! ## Runs and responses -/

/-- Two running units with one ROM answer their next commands alike: each delivers the same response, and
the latches agree after it (`20_memory.md` R47). -/
def answerAlike (s s' : State) : Prop :=
  ∃ r t t', step s = .next t ∧ step s' = .next t' ∧
    t.responses = s.responses ++ [r] ∧ t'.responses = s'.responses ++ [r] ∧ t.flt = t'.flt

/-- The commands of a list of host events that no reset discards, in order. -/
def commandsOf : List HostEvent → List Command
  | [] => []
  | .command c :: rest => c :: commandsOf rest
  | .reset _ :: rest => commandsOf rest

/-- A unit that is running, with the host presenting one command and nothing delivered yet. -/
def soloUnit (rom : CoefRom) (c : Command) : State :=
  { flt := .none, rom := rom, port := c, host := [.command c], responses := [] }

/-- The command, executed alone on a running unit, answers `r`. -/
def soloAnswers (rom : CoefRom) (c : Command) (r : Response) : Prop :=
  ∃ t, step (soloUnit rom c) = .next t ∧ t.responses = [r]

/-- The state with other values on the first two operand ports. -/
def withPorts (s : State) (a b : Port) : State :=
  { s with port := { s.port with opa := a, opb := b } }

/-- The instruction completes with the result `v`. -/
def Yields (i : Instr) (s : State) (v : Port) : Prop := exec i s = .next (completed v s)

/-- The words of an instruction of either kernel: the `OP`, the `TIER` code, and every other field but `K`
zero (`30_encoding.md` R61). -/
def Encoded (i : Kernel → Instr) (op tier : Nat) : Prop :=
  decode (BitVec.ofNat 32 (op + tier * 2 ^ 9)) = .ok (i .k32) ∧
    decode (BitVec.ofNat 32 (op + 2 ^ 8 + tier * 2 ^ 9)) = .ok (i .k64)

/-- The number of a function (`10_state.md` R26, `30_encoding.md` R65). -/
def fnNumber : EvalFn → Nat
  | .sin => 0
  | .log => 1
  | .log2 => 2
  | .exp2 => 3
  | .atan => 4
  | .rcp => 5
  | .rsqrt => 6
  | .sqrt => 7

/-- The words of an instruction over a function: the `OP`, the `TIER` code, the number of the function in
`SEL`, and every other field zero (`30_encoding.md` R61, R65). -/
def EncodedFn (i : EvalFn → Instr) (op tier : Nat) : Prop :=
  ∀ fn, decode (BitVec.ofNat 32 (op + tier * 2 ^ 9 + fnNumber fn * 2 ^ 12)) = .ok (i fn)

/-! ## Numbers -/

/-- `m` is the index of the most significant 1 bit of `u` (`40_normalize.md` R100). -/
def TopBit (u m : Nat) : Prop := 2 ^ m ≤ u ∧ u < 2 ^ (m + 1)

/-- The mantissa of `u`, in `[2^30, 2^31)` when `m` is its top bit, less `2^30`: the centred input of an
evaluator (`40_normalize.md` R102). -/
def centredOf (u m : Nat) : Word := BitVec.ofNat 32 (u * 2 ^ 30 / 2 ^ m - 2 ^ 30)

/-- The value of an IEEE 754 pattern given as a number, `none` for a NaN or an infinity
(`42_convert_arith.md` R143, R144). -/
def ieeeValue (expBits fracBits bias : Nat) (b : Nat) : Option ℚ :=
  let fraction : ℚ := (b % 2 ^ fracBits : Nat) / 2 ^ fracBits
  let exponent := b / 2 ^ fracBits % 2 ^ expBits
  let sign : ℚ := if b / 2 ^ (fracBits + expBits) % 2 = 1 then -1 else 1
  if exponent = 2 ^ expBits - 1 then none
  else if exponent = 0 then some (sign * fraction * 2 ^ (1 - (bias : ℤ)))
  else some (sign * (1 + fraction) * 2 ^ ((exponent : ℤ) - bias))

/-- The value of a binary32 pattern (`42_convert_arith.md` R143). -/
def value32 (b : BitVec 32) : Option ℚ := ieeeValue 8 23 127 b.toNat

/-- The value of a binary64 pattern (`42_convert_arith.md` R144). -/
def value64 (b : BitVec 64) : Option ℚ := ieeeValue 11 52 1023 b.toNat

/-- A rational rounded toward zero (`00_scope.md` R9). -/
def truncQ (q : ℚ) : ℤ := if 0 ≤ q then ⌊q⌋ else ⌈q⌉

/-- The real value a raw pattern of kernel `k` stands for (`00_scope.md` R10). -/
def realValue (k : Kernel) (v : Raw k) : ℚ := (v.toInt : ℚ) / 2 ^ k.frac

/-- What a float-to-fixed conversion returns for a pattern of value `v` (`42_convert_arith.md` R143): the
truncated integer where it fits, else the given implementation-defined value. -/
def convertsTo (k : Kernel) (v : Option ℚ) (oor : Raw k) : Raw k :=
  match v with
  | none => oor
  | some q =>
    if -(2 ^ (k.width - 1)) ≤ truncQ (q * 2 ^ k.frac) ∧ truncQ (q * 2 ^ k.frac) ≤ 2 ^ (k.width - 1) - 1
    then BitVec.ofInt k.width (truncQ (q * 2 ^ k.frac))
    else oor

/-- `r` is the value nearest to `v` among the values of a format's patterns, and where another value is as
near, the pattern `b` of `r` is even (`42_convert_arith.md` R148). -/
def nearestEven {n : Nat} (value : BitVec n → Option ℚ) (v : ℚ) (b : BitVec n) (r : ℚ) : Prop :=
  value b = some r ∧
    ∀ b' r', value b' = some r' →
      |r - v| ≤ |r' - v| ∧ (r' ≠ r → |r' - v| = |r - v| → b.toNat % 2 = 0)

/-! ## Constants -/

/-- The constant table's decimal K32 column (`10_state.md` R27). -/
def constInt32 : KConst → Int
  | .zero => 0
  | .one => 65536
  | .two => 131072
  | .three => 196608
  | .four => 262144
  | .half => 32768
  | .negOne => -65536
  | .pi => 205887
  | .pi2 => 411774
  | .piHalf => 102943
  | .e => 178145
  | .minVal => -2147483648
  | .maxVal => 2147483647
  | .rcpLn2 => 94548
  | .ln2 => 45426

/-- The constant table's decimal K64 column (`10_state.md` R27). -/
def constInt64 : KConst → Int
  | .zero => 0
  | .one => 4294967296
  | .two => 8589934592
  | .three => 12884901888
  | .four => 17179869184
  | .half => 2147483648
  | .negOne => -4294967296
  | .pi => 13493037704
  | .pi2 => 26986075409
  | .piHalf => 6746518852
  | .e => 11674931554
  | .minVal => -9223372036854775808
  | .maxVal => 9223372036854775807
  | .rcpLn2 => 6196328018
  | .ln2 => 2977044471

/-- The id of a kernel-format constant (`10_state.md` R27). -/
def constId : KConst → Nat
  | .zero => 0
  | .one => 1
  | .two => 2
  | .three => 3
  | .four => 4
  | .half => 5
  | .negOne => 6
  | .pi => 7
  | .pi2 => 8
  | .piHalf => 9
  | .e => 10
  | .minVal => 11
  | .maxVal => 12
  | .rcpLn2 => 13
  | .ln2 => 14

/-- The id and the decimal pattern of an s2.30 constant (`10_state.md` R28). -/
def s230Entry : S230Const → Nat × Int
  | .sqrt2 => (16, 1518500249)
  | .halfSqrt2 => (17, 759250125)
  | .rcpHalfPi => (18, 683565276)
  | .oneS230 => (19, 1073741824)

/-- `v` is the real value of a kernel-format constant: its column of the table (`10_state.md` R27). -/
def isRealConst (k : Kernel) (c : KConst) (v : ℝ) : Prop :=
  match c with
  | .zero => v = 0
  | .one => v = 1
  | .two => v = 2
  | .three => v = 3
  | .four => v = 4
  | .half => v = 1 / 2
  | .negOne => v = -1
  | .pi => v = Real.pi
  | .pi2 => v = 2 * Real.pi
  | .piHalf => v = Real.pi / 2
  | .e => v = Real.exp 1
  | .minVal => v = -(2 ^ (k.width - 1 - k.frac))
  | .maxVal => v = 2 ^ (k.width - 1 - k.frac) - 1 / 2 ^ k.frac
  | .rcpLn2 => v = 1 / Real.log 2
  | .ln2 => v = Real.log 2

/-! ## Shapes of statements about one tier -/

/-- Row selection (`41_poly_lut.md` R122). -/
def selects (m : Nat) (k : Word) (r : Nat) : Prop :=
  r < m ∧ (m = 1 → r = 0) ∧ (k.toInt < 0 → r = 0) ∧ (2 ^ 30 ≤ k.toInt → r = m - 1) ∧
    (0 ≤ k.toInt → k.toInt < 2 ^ 30 → r = k.toNat / (2 ^ 30 / m))

/-- `POLY` of a slot is Horner's rule over the row its operand selects; at 0 it is the last coefficient of row
0 (`41_poly_lut.md` R123, R129). -/
def PolyTier (i : EvalFn → Instr) (slot : Slot) : Prop :=
  ∀ fn s, romWf s.rom = true →
    (∃ r c cs, selects (evaluator s.rom fn slot).rowCount (wordA s) r ∧
      (evaluator s.rom fn slot).coef[r]? = some (c :: cs) ∧
      cs.length = (evaluator s.rom fn slot).degree ∧
      exec (i fn) s = .next (completed
        ((cs.foldl (fun acc d => fma30 (wordA s) acc d) c).signExtend 64) s)) ∧
    (wordA s = 0 →
      ∃ row d, (evaluator s.rom fn slot).coef[0]? = some row ∧ row.getLast? = some d ∧
        exec (i fn) s = .next (completed (d.signExtend 64) s))

/-- `LUTRD` of a slot reads the indexed coefficient of the row its operand selects, or faults
(`41_poly_lut.md` R130). -/
def LutrdTier (i : EvalFn → Instr) (slot : Slot) : Prop :=
  ∀ fn s, romWf s.rom = true →
    ((wordB s).toNat ≤ (evaluator s.rom fn slot).degree →
      ∃ r row d, selects (evaluator s.rom fn slot).rowCount (wordA s) r ∧
        (evaluator s.rom fn slot).coef[r]? = some row ∧ row[(wordB s).toNat]? = some d ∧
        exec (i fn) s = .next (completed (d.signExtend 64) s)) ∧
    ((evaluator s.rom fn slot).degree < (wordB s).toNat →
      exec (i fn) s = .next (latchFault .romIndex s))

/-- Approximate division in a slot (`43_div_root_rcp.md` R182). -/
def DivTier (i : Kernel → Instr) (slot : Slot) : Prop :=
  ∀ k s,
    let a := opA k s
    let b := opB k s
    ((b = 0 ∨ b.toInt = -(2 ^ (k.width - 1))) → exec (i k) s = .next (completed 0 s)) ∧
    (b ≠ 0 → b.toInt ≠ -(2 ^ (k.width - 1)) →
      ∃ m, TopBit b.toInt.natAbs m ∧
        let r := poly s.rom .rcp slot (centredOf b.toInt.natAbs m)
        let y : Raw k := BitVec.ofInt k.width (a.toInt * r.toInt / 2 ^ 30)
        let z := if b.toInt < 0 then -y else y
        exec (i k) s = .next (completed ((shr .arithmetic z ((m : Int) - k.frac)).signExtend 64) s))

/-- Reciprocal in a slot (`43_div_root_rcp.md` R186). -/
def RcpTier (i : Kernel → Instr) (slot : Slot) : Prop :=
  ∀ k s,
    let x := opA k s
    ((x = 0 ∨ x.toInt = -(2 ^ (k.width - 1))) → exec (i k) s = .next (completed 0 s)) ∧
    (x ≠ 0 → x.toInt ≠ -(2 ^ (k.width - 1)) →
      ∃ m, TopBit x.toInt.natAbs m ∧
        let r := poly s.rom .rcp slot (centredOf x.toInt.natAbs m)
        let y := if x.toInt < 0 then -r else r
        exec (i k) s = .next (completed
          ((shr .arithmetic (y.signExtend k.width) (30 - k.frac + ((m : Int) - k.frac))).signExtend 64) s))

/-- Approximate square root in a slot (`43_div_root_rcp.md` R191). -/
def SqrtTier (i : Kernel → Instr) (slot : Slot) : Prop :=
  ∀ k s,
    let x := opA k s
    (x.toInt ≤ 0 → exec (i k) s = .next (completed 0 s)) ∧
    (0 < x.toInt →
      ∃ m, TopBit x.toNat m ∧
        let e : Int := (m : Int) - k.frac
        let y := poly s.rom .sqrt slot (centredOf x.toNat m)
        let z := qmul30 (if e % 2 = 1 then 0x5A827999#32 else 0x40000000#32) y
        exec (i k) s = .next (completed
          ((shr .arithmetic (z.signExtend k.width) (30 - k.frac - e / 2)).signExtend 64) s))

/-- Reciprocal square root in a slot (`43_div_root_rcp.md` R196). -/
def RsqrtTier (i : Kernel → Instr) (slot : Slot) : Prop :=
  ∀ k s,
    let x := opA k s
    (x.toInt ≤ 0 → exec (i k) s = .next (completed 0 s)) ∧
    (0 < x.toInt →
      ∃ m, TopBit x.toNat m ∧
        let e : Int := (m : Int) - k.frac
        let y := poly s.rom .rsqrt slot (centredOf x.toNat m)
        let z := qmul30 (if e % 2 = 1 then 0x2D413CCD#32 else 0x40000000#32) y
        exec (i k) s = .next (completed
          ((shr .arithmetic (z.signExtend k.width) (30 - k.frac + e / 2)).signExtend 64) s))

/-- Base-2 exponential in a slot, with the bound 15 or 32 (`44_exp_log_pow.md` R210). -/
def Exp2Tier (i : Kernel → Instr) (slot : Slot) : Prop :=
  ∀ k s,
    let x := opA k s
    let bound : Int := (match k with | .k32 => 15 | .k64 => 32) * 2 ^ k.frac
    (bound ≤ x.toInt → exec (i k) s = .next (completed (BitVec.ofInt 64 (2 ^ (k.width - 1) - 1)) s)) ∧
    (x.toInt ≤ -bound → exec (i k) s = .next (completed 0 s)) ∧
    (-bound < x.toInt → x.toInt < bound →
      let y := poly s.rom .exp2 slot (BitVec.ofInt 32 (x.toInt % 2 ^ k.frac * 2 ^ 30 / 2 ^ k.frac))
      exec (i k) s = .next (completed
        ((shr .arithmetic (y.signExtend k.width) (30 - k.frac - x.toInt / 2 ^ k.frac)).signExtend 64) s))

/-- Natural exponential in a slot: `EXP2` of `MUL` by the constant `RCP_LN2`
(`44_exp_log_pow.md` R214). -/
def ExpTier (i exp2 : Kernel → Instr) : Prop :=
  ∀ k s, ∃ p v,
    Yields (.mul k) (withPorts s s.port.opa ((constRaw k .rcpLn2).signExtend 64)) p ∧
    Yields (exp2 k) (withPorts s p 0) v ∧
    exec (i k) s = .next (completed v s)

/-- Base-2 logarithm in a slot (`44_exp_log_pow.md` R218). -/
def Log2Tier (i : Kernel → Instr) (slot : Slot) : Prop :=
  ∀ k s,
    let x := opA k s
    (x.toInt ≤ 0 → exec (i k) s = .next (completed 0 s)) ∧
    (0 < x.toInt →
      ∃ m, TopBit x.toNat m ∧
        let y := poly s.rom .log2 slot (centredOf x.toNat m)
        let fraction : Raw k := shr .arithmetic (y.signExtend k.width) (30 - k.frac)
        let sum : Raw k := BitVec.ofInt k.width (((m : Int) - k.frac) * 2 ^ k.frac + fraction.toInt)
        exec (i k) s = .next (completed (sum.signExtend 64) s))

/-- Natural logarithm in a slot (`44_exp_log_pow.md` R222). -/
def LogTier (i : Kernel → Instr) (slot : Slot) : Prop :=
  ∀ k s,
    let x := opA k s
    (x.toInt ≤ 0 → exec (i k) s = .next (completed 0 s)) ∧
    (0 < x.toInt →
      ∃ m, TopBit x.toNat m ∧
        let y := poly s.rom .log slot (centredOf x.toNat m)
        let fraction : Raw k := shr .arithmetic (y.signExtend k.width) (30 - k.frac)
        let sum : Raw k := BitVec.ofInt k.width
          (((m : Int) - k.frac) * (constRaw k .ln2).toInt + fraction.toInt)
        exec (i k) s = .next (completed (sum.signExtend 64) s))

/-- Power in a slot: `one` for the exponent 0, 0 for a base that is not positive, else `EXP` of the
exponent times `LOG` of the base (`44_exp_log_pow.md` R226). -/
def PowTier (i exp log : Kernel → Instr) : Prop :=
  ∀ k s,
    let x := opA k s
    let p := opB k s
    (p = 0 → exec (i k) s = .next (completed (BitVec.ofNat 64 (2 ^ k.frac)) s)) ∧
    (p ≠ 0 → x.toInt ≤ 0 → exec (i k) s = .next (completed 0 s)) ∧
    (p ≠ 0 → 0 < x.toInt →
      ∃ l q v, Yields (log k) s l ∧ Yields (.mul k) (withPorts s s.port.opb l) q ∧
        Yields (exp k) (withPorts s q 0) v ∧ exec (i k) s = .next (completed v s))

/-- `v` is the sine, in a slot and in the kernel's format, of the angle of `z` quarter turns: the mirror into
`[-1, 1]`, the odd polynomial and the rescale (`45_trig.md` R231, R232). -/
def sineAt (rom : CoefRom) (k : Kernel) (slot : Slot) (z : Word) (v : Raw k) : Prop :=
  ∃ m : Word, -(2 ^ 30) ≤ m.toInt ∧ m.toInt ≤ 2 ^ 30 ∧
    (-(2 ^ 30) ≤ z.toInt → z.toInt < 2 ^ 30 → m = z) ∧
    (z.toInt < -(2 ^ 30) ∨ 2 ^ 30 ≤ z.toInt → m = BitVec.ofInt 32 (2 ^ 31 - z.toInt)) ∧
    v = shr .arithmetic ((qmul30 (poly rom .sin slot (qmul30 m m)) m).signExtend k.width) (30 - k.frac)

/-- The angle of an operand in quarter turns, modulo 4, in s2.30 (`45_trig.md` R230). -/
def quarterTurns (k : Kernel) (x : Raw k) : Word := BitVec.ofInt 32 (x.toInt * 683565276 / 2 ^ k.frac)

/-- Sine in a slot; the sine of 0 is 0 on every ROM (`45_trig.md` R232, R233). -/
def SinTier (i : Kernel → Instr) (slot : Slot) : Prop :=
  ∀ k s,
    (∃ v, sineAt s.rom k slot (quarterTurns k (opA k s)) v ∧
      exec (i k) s = .next (completed (v.signExtend 64) s)) ∧
    (opA k s = 0 → exec (i k) s = .next (completed 0 s))

/-- Cosine in a slot: `SIN` of `ADD` of the constant `PIHALF` (`45_trig.md` R236). -/
def CosTier (i sin : Kernel → Instr) : Prop :=
  ∀ k s, ∃ p v,
    Yields (.add k) (withPorts s s.port.opa ((constRaw k .piHalf).signExtend 64)) p ∧
    Yields (sin k) (withPorts s p 0) v ∧
    exec (i k) s = .next (completed v s)

/-- Tangent in a slot: the division, by the given divider, of the sine of the reduced angle by the sine of
the reduced angle a quarter turn further; 0 where that cosine is 0 (`45_trig.md` R240). -/
def TanTier (i div : Kernel → Instr) (slot : Slot) : Prop :=
  ∀ k s, ∃ sn cs,
    sineAt s.rom k slot (quarterTurns k (opA k s)) sn ∧
    sineAt s.rom k slot (quarterTurns k (opA k s) + 0x40000000#32) cs ∧
    (∃ v, Yields (div k) (withPorts s (sn.signExtend 64) (cs.signExtend 64)) v ∧
      exec (i k) s = .next (completed v s)) ∧
    (cs = 0 → exec (i k) s = .next (completed 0 s))

/-- The one's-complement absolute value as a number (`45_trig.md` R245). -/
def onesAbsInt (x : Int) : Nat := (if x < 0 then -x - 1 else x).toNat

/-- `q` is the quotient of the ratio helper for the numerator `num` and the denominator `den`
(`45_trig.md` R244). -/
def ratioQuotient (rom : CoefRom) (slot : Slot) (num den : Nat) (q : Word) : Prop :=
  (den = 0 → q = 0) ∧
    ∀ m, TopBit den m →
      q = qmul30 (BitVec.ofNat 32 (num * 2 ^ 30 / 2 ^ m)) (poly rom .rcp slot (centredOf den m))

/-- Two-argument arctangent in a slot (`45_trig.md` R245). -/
def Atan2Tier (i : Kernel → Instr) (slot : Slot) : Prop :=
  ∀ k s,
    let y := (opA k s).toInt
    let x := (opB k s).toInt
    let piHalf := constRaw k .piHalf
    (x = 0 → 0 < y → exec (i k) s = .next (completed (piHalf.signExtend 64) s)) ∧
    (x = 0 → y < 0 → exec (i k) s = .next (completed ((-piHalf).signExtend 64) s)) ∧
    (x = 0 → y = 0 → exec (i k) s = .next (completed 0 s)) ∧
    (x ≠ 0 →
      ∃ q, ratioQuotient s.rom slot (min (onesAbsInt x) (onesAbsInt y))
          (max (onesAbsInt x) (onesAbsInt y)) q ∧
        let t : Raw k := shr .arithmetic ((poly s.rom .atan slot q).signExtend k.width) (30 - k.frac)
        let ang := if (x < 0) = (y < 0) then t else ~~~t
        let v : Raw k :=
          if onesAbsInt y ≤ onesAbsInt x then
            if 0 < x then ang
            else if 0 ≤ y then ang + constRaw k .pi else ang - constRaw k .pi
          else if 0 < y then piHalf - ang else -piHalf - ang
        exec (i k) s = .next (completed (v.signExtend 64) s))

/-- One-argument arctangent in a slot: `ATAN2` with the second operand raw 1.0 (`45_trig.md` R249). -/
def AtanTier (i atan2 : Kernel → Instr) : Prop :=
  ∀ k s, ∃ v,
    Yields (atan2 k) (withPorts s s.port.opa (BitVec.ofNat 64 (2 ^ k.frac))) v ∧
    exec (i k) s = .next (completed v s)

/-- `t` is the root of `(1 + x)(1 - x)` that the K64 instructions `ADD`, `SUB`, `MUL` and the square root
of the slot give (`45_trig.md` R253). -/
def rootOfComplement (sqrt : Kernel → Instr) (s : State) (x t : Port) : Prop :=
  ∃ p q r, Yields (.add .k64) (withPorts s 0x100000000 x) p ∧
    Yields (.sub .k64) (withPorts s 0x100000000 x) q ∧
    Yields (.mul .k64) (withPorts s p q) r ∧ Yields (sqrt .k64) (withPorts s r 0) t

/-- Inverse sine and cosine in a slot: 0 outside `[-1, 1]`; in K64 `ATAN2` of the operand and the root of
`(1 + x)(1 - x)`, in the given order; in K32 the K64 instruction on the widened operand, shifted back
(`45_trig.md` R253). -/
def InverseTier (i atan2 sqrt : Kernel → Instr) (order : Port → Port → State → State) : Prop :=
  ∀ s,
    (∀ k, (opA k s).toInt < -(2 ^ k.frac) ∨ 2 ^ k.frac < (opA k s).toInt →
      exec (i k) s = .next (completed 0 s)) ∧
    (-(2 ^ 32) ≤ (opA .k64 s).toInt → (opA .k64 s).toInt ≤ 2 ^ 32 →
      ∃ t v, rootOfComplement sqrt s s.port.opa t ∧
        Yields (atan2 .k64) (order s.port.opa t s) v ∧
        exec (i .k64) s = .next (completed v s)) ∧
    (-(2 ^ 16) ≤ (opA .k32 s).toInt → (opA .k32 s).toInt ≤ 2 ^ 16 →
      ∃ w v, Yields .widen s w ∧ Yields (i .k64) (withPorts s w 0) v ∧
        exec (i .k32) s =
          .next (completed (((v.sshiftRight 16).setWidth 32).signExtend 64) s))

end Sys2Proof.Claims
end

