-- ==== Sys2Proof/Certificates/Slice0/Obligations.lean ====
section
/-! DEFINITION. The statements for the provers. -/

open Sys2Proof
open Sys2Proof.Machine
open Sys2Proof.Claims

/-! ## The command word -/

/-- Every well-formed instruction is read back from its word (`30_encoding.md` R61, R66, R80). -/
def Obligations.DecodeEncodeRoundTrip : Prop :=
  ∀ i : Instr, i.wf = true → decode (encode i) = .ok i

/-- A word that decodes is the word of the instruction it decodes to, and that instruction is well-formed: no
bit of a legal word is ignored (`30_encoding.md` R61, R66, R69). -/
def Obligations.EncodeDecodeRoundTrip : Prop :=
  ∀ (w : Word) (i : Instr), decode w = .ok i → i.wf = true ∧ encode i = w

/-- The words that decode are exactly those the opcode map lists with `ZERO = 0` (`30_encoding.md` R66,
R67, R69). -/
def Obligations.DecodesExactlyTheLegalWords : Prop :=
  ∀ w : Word, (∃ i, decode w = .ok i) ↔ legalWord w

/-- Words written out from the layout decode to what they stand for (`30_encoding.md` R61, R66). -/
def Obligations.WrittenWordsDecode : Prop :=
  decode 0x00000801#32 = .error .modeField ∧
    decode 0x00000902#32 = .ok (.shrA .k64) ∧
    decode 0x00007212#32 = .ok (.polyP .sqrt) ∧
    decode 0x00004613#32 = .ok (.lutrdFF .atan) ∧
    decode 0x0000E12E#32 = .ok (.const .k64 (.kernel .ln2)) ∧
    decode 0x0001202E#32 = .ok (.const .k32 (.s230 .rcpHalfPi)) ∧
    decode 0x00000460#32 = .ok (.divF .k32) ∧
    decode 0x00000784#32 = .ok (.atan2FF .k64) ∧
    decode 0x00000000#32 = .error .unassignedOp

/-! ## One step -/

/-- A running unit runs the instruction the next command's word decodes to, on the state in which that
command is the sampled one and the host's list has moved on (`60_exceptions.md` R305, `20_memory.md` R51). -/
def Obligations.StepRunsDecodedInstruction : Prop :=
  ∀ (s : State) (c : Command) (rest : List HostEvent) (i : Instr),
    s.flt = .none → s.host = .command c :: rest → decode c.word = .ok i →
      step s = exec i { s with port := c, host := rest }

/-- On a running unit a word is answered with the fault 1 and the result 0, and latches it, exactly when it is
illegal: illegality depends on the word alone (`30_encoding.md` R69, `60_exceptions.md` R301). -/
def Obligations.IllegalWordRaisesIllegalCommand : Prop :=
  ∀ (s : State) (c : Command) (rest : List HostEvent),
    s.flt = .none → s.host = .command c :: rest →
      (¬ legalWord c.word →
        step s = .next { s with
          flt := .illegalCommand, port := c, host := rest,
          responses := s.responses ++ [{ flt := .illegalCommand, res := 0 }] }) ∧
      (legalWord c.word → ∀ t, step s = .next t → t.flt ≠ .illegalCommand)

/-- A halted unit answers the next command, whatever it is, with its latch and the result 0, and the latch
does not change (`60_exceptions.md` R304). -/
def Obligations.HaltedUnitAnswersWithItsLatch : Prop :=
  ∀ (s : State) (c : Command) (rest : List HostEvent),
    s.flt ≠ .none → s.host = .command c :: rest →
      step s = .next { s with
        port := c, host := rest, responses := s.responses ++ [{ flt := s.flt, res := 0 }] }

/-- Reset clears the latch, answers none of the commands in flight, and changes nothing else, in every state;
with no command pending the unit holds its latch and changes nothing (`70_reset_and_hazards.md` R330, R336).
That the responses delivered stay delivered is the model's choice, log entry 14. -/
def Obligations.ResetClearsTheLatchAndIdleKeepsIt : Prop :=
  ∀ s : State,
    (∀ lost rest, s.host = .reset lost :: rest → step s = .next { s with flt := .none, host := rest }) ∧
    (s.host = [] → step s = .next s)

/-- The unit after reset is running, and the invariant holds (`10_state.md` R31). That its ROM is a legal one
made of free values, and that nothing has been delivered yet, are the model's choices, log entries 2 and 6. -/
def Obligations.ResetStateMeetsInvariant : Prop :=
  State.reset.flt = .none ∧ State.reset.Inv

/-! ## Every step -/

/-- Every step keeps the invariant: the ROM stays a legal configuration, a response with a fault code carries
the result 0, and the last response of a halted unit is that of its latch (`41_poly_lut.md` R127,
`10_state.md` R21, `60_exceptions.md` R304). -/
def Obligations.StepKeepsInvariant : Prop :=
  ∀ s t : State, s.Inv → step s = .next t → t.Inv

/-- The unit never stops, no step writes the ROM, and the latch changes only from 0 by a command that answers
with the new code and the result 0, or to 0 by reset (`10_state.md` R24, R26, `60_exceptions.md` R306). -/
def Obligations.LatchChangesOnlyByFaultOrReset : Prop :=
  ∀ s : State, ∃ t, step s = .next t ∧ t.rom = s.rom ∧
    (t.flt = s.flt ∨
      (s.flt = .none ∧ (∃ c rest, s.host = .command c :: rest) ∧
        t.responses = s.responses ++ [{ flt := t.flt, res := 0 }]) ∨
      (t.flt = .none ∧ (∃ lost rest, s.host = .reset lost :: rest) ∧ t.responses = s.responses))

/-- The frame of every instruction: it delivers one response, leaves the ROM, the sampled command and the
host's list alone, and leaves the latch alone too, answering with code 0, unless it is `NARROW` or `LUTRD`
taking a fault (`20_memory.md` R45, `10_state.md` R23, `60_exceptions.md` R300, R301). -/
def Obligations.InstructionFrame : Prop :=
  ∀ (i : Instr) (s : State), ∃ t r, exec i s = .next t ∧
    t.rom = s.rom ∧ t.port = s.port ∧ t.host = s.host ∧ t.responses = s.responses ++ [r] ∧
    ((t.flt = s.flt ∧ r.flt = .none) ∨
      (t.flt = .notImplemented ∧ r = { flt := .notImplemented, res := 0 } ∧ i = .narrow) ∨
      (t.flt = .romIndex ∧ r = { flt := .romIndex, res := 0 } ∧
        ∃ fn, i = .lutrdP fn ∨ i = .lutrdF fn ∨ i = .lutrdFF fn))

/-! ## What a response depends on -/

/-- While the unit is running, the response to a command is a function of the command and the configuration
alone: not of the responses delivered, the command before, or what the host presents later; a halted unit
answers with its latch (`20_memory.md` R47). -/
def Obligations.ResponseDependsOnCommandAndRom : Prop :=
  ∀ (s s' : State) (c : Command) (rest rest' : List HostEvent),
    s.host = .command c :: rest → s'.host = .command c :: rest' →
      (s.flt = .none → s'.flt = .none → s.rom = s'.rom → answerAlike s s') ∧
      (s.flt ≠ .none → ∃ t, step s = .next t ∧
        t.responses = s.responses ++ [{ flt := s.flt, res := 0 }])

/-- An operand port an instruction's class does not name is ignored entirely (`10_state.md` R21,
`30_encoding.md` R61, R66). -/
def Obligations.UnnamedPortsAreIgnored : Prop :=
  ∀ (s s' : State) (c d : Command) (rest rest' : List HostEvent) (row : MapRow),
    s.flt = .none → s'.flt = .none → s.rom = s'.rom →
    s.host = .command c :: rest → s'.host = .command d :: rest' →
    c.word = d.word → row ∈ opcodeMap → rowAllows c.word row → agreeOn row.cls c d →
      answerAlike s s'

/-- The upper half of an operand port is ignored where the operand is a K32 value, a 32-bit integer, an s2.30
value or a binary32 pattern: for every word with `K = 0` but `FROMF64`'s, and for `FROMINT`, `FROMF32` and
the `RATIO` family with `K = 1` (`10_state.md` R21). -/
def Obligations.UpperPortHalvesAreIgnored : Prop :=
  ∀ (s s' : State) (c d : Command) (rest rest' : List HostEvent),
    s.flt = .none → s'.flt = .none → s.rom = s'.rom →
    s.host = .command c :: rest → s'.host = .command d :: rest' →
    c.word = d.word →
    (kField c.word = 0 ∧ opField c.word ≠ 0x22) ∨
      opField c.word ∈ [0x20, 0x21, 0x28, 0x29, 0x2A, 0x2B] →
    c.opa.setWidth 32 = d.opa.setWidth 32 → c.opb.setWidth 32 = d.opb.setWidth 32 →
    c.opc.setWidth 32 = d.opc.setWidth 32 →
      answerAlike s s'

/-! ## Runs -/

/-- Once a command faults, the response of that command is its code with the result 0, and every later
command, until reset, is answered the same: no command after it is executed (`60_exceptions.md` R304,
R306). -/
def Obligations.FaultHaltsUntilReset : Prop :=
  ∀ (s t : State) (c : Command) (later : List Command) (rest : List HostEvent),
    s.flt = .none → s.host = .command c :: (later.map .command ++ rest) →
    step s = .next t → t.flt ≠ .none →
      t.responses = s.responses ++ [{ flt := t.flt, res := 0 }] ∧
      ∃ u : State, Host.Core.run Sys2Proof.core later.length t = .next u ∧
        u.flt = t.flt ∧ u.rom = s.rom ∧ u.host = rest ∧
        u.responses = t.responses ++ List.replicate later.length { flt := t.flt, res := 0 }

/-- Every command accepted gets exactly one response unless a reset discards it, whatever commands and resets
surround it, and the run consumes the whole list (`20_memory.md` R48, `70_reset_and_hazards.md` R336). -/
def Obligations.EveryCommandGetsOneResponse : Prop :=
  ∀ s : State, ∃ (u : State) (rs : List Response),
    Host.Core.run Sys2Proof.core s.host.length s = .next u ∧ u.host = [] ∧ u.rom = s.rom ∧
      u.responses = s.responses ++ rs ∧ rs.length = (commandsOf s.host).length

/-- As long as no command faults, a stream of commands is answered, in order, with exactly the responses each
command would get alone: whichever agents they come from and however they are interleaved
(`20_memory.md` R47, R48, R53). -/
def Obligations.StreamIsAnsweredCommandByCommand : Prop :=
  ∀ (s : State) (cs : List Command) (rs : List Response),
    s.flt = .none → s.host = cs.map .command →
    List.Forall₂ (soloAnswers s.rom) cs rs → (∀ r ∈ rs, r.flt = .none) →
      ∃ u : State, Host.Core.run Sys2Proof.core cs.length s = .next u ∧
        u.flt = .none ∧ u.responses = s.responses ++ rs

/-! ## Normalization unit -/

/-- `CLZ` returns the width for 0, else the number of zero bits above the top 1 bit (`40_normalize.md` R100,
R105). -/
def Obligations.ClzCountsLeadingZeros : Prop :=
  Encoded .clz 0x01 0 ∧
  ∀ (k : Kernel) (s : State), ∃ n : Nat,
    exec (.clz k) s = .next (completed (BitVec.ofNat 64 n) s) ∧
      (opA k s = 0 → n = k.width) ∧
      (opA k s ≠ 0 → n < k.width ∧ TopBit (opA k s).toNat (k.width - 1 - n))

/-- `SHR` shifts right for an amount in `[0, W)`, filling with zeros or with the sign, left for an amount in
`(-W, 0)`, and gives 0 for every other amount (`40_normalize.md` R101, R106). -/
def Obligations.ShiftByASignedAmount : Prop :=
  Encoded .shrL 0x02 0 ∧ decode 0x00000802#32 = .ok (.shrA .k32) ∧ decode 0x00000902#32 = .ok (.shrA .k64) ∧
  ∀ (k : Kernel) (s : State),
    let a := opA k s
    let n := (wordB s).toInt
    (0 ≤ n → n < k.width →
      exec (.shrL k) s = .next (completed ((a >>> n.toNat).signExtend 64) s) ∧
      exec (.shrA k) s = .next (completed ((a.sshiftRight n.toNat).signExtend 64) s)) ∧
    (-(k.width : Int) < n → n < 0 →
      exec (.shrL k) s = .next (completed ((a <<< (-n).toNat).signExtend 64) s) ∧
      exec (.shrA k) s = .next (completed ((a <<< (-n).toNat).signExtend 64) s)) ∧
    (n ≤ -(k.width : Int) ∨ k.width ≤ n →
      exec (.shrL k) s = .next (completed 0 s) ∧ exec (.shrA k) s = .next (completed 0 s))

/-- `NORM` packs the exponent, `msb - F`, over the mantissa, the operand with its top bit moved to bit 30; for
0 the mantissa is 0 and the exponent `-F - 1` (`40_normalize.md` R102, R107). -/
def Obligations.NormPacksExponentAndMantissa : Prop :=
  Encoded .norm 0x03 0 ∧
  ∀ (k : Kernel) (s : State),
    (opA k s = 0 →
      exec (.norm k) s = .next (completed (BitVec.ofInt 32 (-(k.frac : Int) - 1) ++ 0#32) s)) ∧
    (opA k s ≠ 0 → ∃ m, TopBit (opA k s).toNat m ∧
      2 ^ 30 ≤ (opA k s).toNat * 2 ^ 30 / 2 ^ m ∧ (opA k s).toNat * 2 ^ 30 / 2 ^ m < 2 ^ 31 ∧
      exec (.norm k) s = .next (completed
        (BitVec.ofInt 32 ((m : Int) - k.frac) ++
          BitVec.ofNat 32 ((opA k s).toNat * 2 ^ 30 / 2 ^ m)) s))

/-! ## s2.30 arithmetic and the evaluators -/

/-- `QMUL30` is the 64-bit product shifted right arithmetically by 30, its low 32 bits kept; `FMA30` adds the
third operand to that, wrapping (`41_poly_lut.md` R120, R121, R125, R126). -/
def Obligations.S230ProductIsWidenedAndShifted : Prop :=
  decode 0x00000010#32 = .ok .qmul30 ∧ decode 0x00000011#32 = .ok .fma30 ∧
  ∀ s : State,
    let p : Word := (((wordA s).signExtend 64 * (wordB s).signExtend 64).sshiftRight 30).setWidth 32
    exec .qmul30 s = .next (completed (p.signExtend 64) s) ∧
      exec .fma30 s = .next (completed ((p + wordC s).signExtend 64) s)

/-- `POLY` runs Horner's rule over the coefficient row its operand selects, from the highest power down,
and at 0 returns the last coefficient of row 0 (`41_poly_lut.md` R122, R123, R129). -/
def Obligations.PolyIsHornerOnTheSelectedRow : Prop :=
  EncodedFn .polyP 0x12 1 ∧ EncodedFn .polyF 0x12 2 ∧ EncodedFn .polyFF 0x12 3 ∧
  PolyTier .polyP .p ∧ PolyTier .polyF .f ∧ PolyTier .polyFF .ff

/-- `LUTRD` reads the indexed coefficient of the row `POLY` would use, and faults with `ROM_INDEX`, writing no
result, when the index exceeds the degree (`41_poly_lut.md` R122, R130, `20_memory.md` R41). -/
def Obligations.LutrdReadsACoefficientOrFaults : Prop :=
  EncodedFn .lutrdP 0x13 1 ∧ EncodedFn .lutrdF 0x13 2 ∧ EncodedFn .lutrdFF 0x13 3 ∧
  LutrdTier .lutrdP .p ∧ LutrdTier .lutrdF .f ∧ LutrdTier .lutrdFF .ff

/-! ## Conversion and constants -/

/-- `FROMINT` is the 32-bit integer times `2^F`, wrapping in K32; `WIDEN` is the K32 value moved up by 16 bits,
exact (`42_convert_arith.md` R142, R154). -/
def Obligations.FromintAndWidenScale : Prop :=
  Encoded .fromint 0x20 0 ∧ decode 0x0000002C#32 = .ok .widen ∧
  ∀ s : State,
    exec (.fromint .k32) s = .next (completed ((wordA s <<< 16).signExtend 64) s) ∧
    exec (.fromint .k64) s = .next (completed ((wordA s).signExtend 64 <<< 32) s) ∧
    exec .widen s = .next (completed ((wordA s).signExtend 64 <<< 16) s)

/-- `FROMF32` and `FROMF64` truncate the value of the pattern toward zero; a NaN, an infinity or a value out of
range gives `FLOAT_OOR`, whatever it is (`42_convert_arith.md` R143, R144). -/
def Obligations.FromFloatTruncates : Prop :=
  Encoded .fromf32 0x21 0 ∧ Encoded .fromf64 0x22 0 ∧
  ∀ (k : Kernel) (s : State),
    exec (.fromf32 k) s = .next (completed
      ((convertsTo k (value32 (wordA s)) (Config.floatOor k .binary32 (wordA s))).signExtend 64) s) ∧
    exec (.fromf64 k) s = .next (completed
      ((convertsTo k (value64 s.port.opa) (Config.floatOor k .binary64 s.port.opa)).signExtend 64) s)

/-- `TOF32` and `TOF64` return the pattern of the format's number nearest to the fixed-point value, ties to the
even pattern, and `+0` for 0 (`42_convert_arith.md` R148, R149). -/
def Obligations.ToFloatRoundsToNearestEven : Prop :=
  Encoded .tof32 0x26 0 ∧ Encoded .tof64 0x27 0 ∧
  ∀ (k : Kernel) (s : State),
    (∃ (p : BitVec 32) (r : ℚ), nearestEven value32 (realValue k (opA k s)) p r ∧
      (opA k s = 0 → p = 0) ∧ exec (.tof32 k) s = .next (completed (p.setWidth 64) s)) ∧
    (∃ (p : BitVec 64) (r : ℚ), nearestEven value64 (realValue k (opA k s)) p r ∧
      (opA k s = 0 → p = 0) ∧ exec (.tof64 k) s = .next (completed p s))

/-- A binary64 number in range, converted to fixed point and back, is reproduced to within `2^-F`
(`42_convert_arith.md` R149). -/
def Obligations.FloatRoundTripWithinOneUnit : Prop :=
  ∀ (k : Kernel) (s : State) (q : ℚ), value64 s.port.opa = some q →
    -(2 ^ (k.width - 1)) ≤ truncQ (q * 2 ^ k.frac) → truncQ (q * 2 ^ k.frac) ≤ 2 ^ (k.width - 1) - 1 →
      ∃ p p' q', Yields (.fromf64 k) s p ∧ Yields (.tof64 k) (withPorts s p 0) p' ∧
        value64 p' = some q' ∧ |q' - q| < 1 / 2 ^ k.frac

/-- `TOINTF`, `TOINTC` and `TOINTR` return the floor, the ceiling and the nearest integer (ties up); where the
addition of the last two wraps they return the least integer (`42_convert_arith.md` R145, R146, R147). -/
def Obligations.ToIntegerRounds : Prop :=
  Encoded .tointf 0x23 0 ∧ Encoded .tointc 0x24 0 ∧ Encoded .tointr 0x25 0 ∧
  ∀ (k : Kernel) (s : State),
    let v := opA k s
    let q := realValue k v
    let top : Int := 2 ^ (k.width - 1) - 1
    let least : Int := -(2 ^ (k.width - 1 - k.frac))
    exec (.tointf k) s = .next (completed (BitVec.ofInt 64 ⌊q⌋) s) ∧
    exec (.tointc k) s = .next (completed (BitVec.ofInt 64
      (if v.toInt ≤ top - (2 ^ k.frac - 1) then ⌈q⌉ else least)) s) ∧
    exec (.tointr k) s = .next (completed (BitVec.ofInt 64
      (if v.toInt ≤ top - 2 ^ (k.frac - 1) then ⌊q + 1 / 2⌋ else least)) s)

/-- The `RATIO` family divides the widened numerator once, truncating toward zero and wrapping, and gives 0 for
a denominator of 0 (`42_convert_arith.md` R150 to R153). -/
def Obligations.RatioTruncatesOneDivision : Prop :=
  Encoded .ratio 0x28 0 ∧ Encoded .ratio10 0x29 0 ∧ Encoded .ratio100 0x2A 0 ∧ Encoded .ratio1000 0x2B 0 ∧
  ∀ (k : Kernel) (s : State),
    let scaled : Int := (wordA s).toInt * 2 ^ k.frac
    (wordB s = 0 → exec (.ratio k) s = .next (completed 0 s)) ∧
    (wordB s ≠ 0 → exec (.ratio k) s = .next (completed
      ((BitVec.ofInt k.width (scaled.tdiv (wordB s).toInt)).signExtend 64) s)) ∧
    exec (.ratio10 k) s = .next (completed ((BitVec.ofInt k.width (scaled.tdiv 10)).signExtend 64) s) ∧
    exec (.ratio100 k) s = .next (completed ((BitVec.ofInt k.width (scaled.tdiv 100)).signExtend 64) s) ∧
    exec (.ratio1000 k) s = .next (completed ((BitVec.ofInt k.width (scaled.tdiv 1000)).signExtend 64) s)

/-- `NARROW` raises `NOT_IMPLEMENTED` on every execution, whatever the operand: that is its whole effect
(`42_convert_arith.md` R155, `60_exceptions.md` R302). -/
def Obligations.NarrowAlwaysFaults : Prop :=
  decode 0x0000012D#32 = .ok .narrow ∧
  ∀ s : State, exec .narrow s = .next { s with
    flt := .notImplemented,
    responses := s.responses ++ [{ flt := .notImplemented, res := 0 }] }

/-- `CONST` returns the tabulated pattern of its id (`42_convert_arith.md` R156, `10_state.md` R27, R28,
`20_memory.md` R42). -/
def Obligations.ConstReturnsTheTabulatedPattern : Prop :=
  (∀ (c : KConst) (s : State),
    decode (BitVec.ofNat 32 (0x2E + constId c * 2 ^ 12)) = .ok (.const .k32 (.kernel c)) ∧
    decode (BitVec.ofNat 32 (0x12E + constId c * 2 ^ 12)) = .ok (.const .k64 (.kernel c)) ∧
    exec (.const .k32 (.kernel c)) s = .next (completed (BitVec.ofInt 64 (constInt32 c)) s) ∧
    exec (.const .k64 (.kernel c)) s = .next (completed (BitVec.ofInt 64 (constInt64 c)) s)) ∧
  (∀ (c : S230Const) (s : State),
    decode (BitVec.ofNat 32 (0x2E + (s230Entry c).1 * 2 ^ 12)) = .ok (.const .k32 (.s230 c)) ∧
    exec (.const .k32 (.s230 c)) s = .next (completed (BitVec.ofInt 64 (s230Entry c).2) s))

/-- Every kernel-format constant is `floor(c * 2^F)` of its real value (`10_state.md` R27). -/
def Obligations.KernelConstantsAreFloorsOfReals : Prop :=
  ∀ (k : Kernel) (c : KConst) (s : State), ∃ v : ℝ, isRealConst k c v ∧
    exec (.const k (.kernel c)) s = .next (completed (BitVec.ofInt 64 ⌊v * 2 ^ k.frac⌋) s)

/-- The s2.30 constants are the floor of `sqrt 2 * 2^30` and the integers nearest to `2^30 / sqrt 2` and
`2 / π * 2^30` (`10_state.md` R28). -/
def Obligations.S230ConstantsApproximateReals : Prop :=
  (constS230 .sqrt2).toInt = ⌊Real.sqrt 2 * 2 ^ 30⌋ ∧
    |((constS230 .halfSqrt2).toInt : ℝ) - 2 ^ 30 / Real.sqrt 2| < 1 / 2 ∧
    |((constS230 .rcpHalfPi).toInt : ℝ) - 2 / Real.pi * 2 ^ 30| < 1 / 2 ∧
    (constS230 .oneS230).toInt = 2 ^ 30

/-! ## Core arithmetic -/

/-- `ADD`, `SUB` and `NEG` wrap (`42_convert_arith.md` R141, R157, R158, R159, R162). -/
def Obligations.AddSubNegWrap : Prop :=
  Encoded .add 0x30 0 ∧ Encoded .sub 0x31 0 ∧ Encoded .neg 0x32 0 ∧
  ∀ (k : Kernel) (s : State),
    exec (.add k) s = .next (completed ((opA k s + opB k s).signExtend 64) s) ∧
    exec (.sub k) s = .next (completed ((opA k s - opB k s).signExtend 64) s) ∧
    exec (.neg k) s = .next (completed ((-opA k s).signExtend 64) s)

/-- `MUL` widens both operands to double width, multiplies, shifts right by `F` arithmetically and narrows by
wrapping (`42_convert_arith.md` R141, R160). -/
def Obligations.MulIsTheShiftedDoubleWidthProduct : Prop :=
  Encoded .mul 0x33 0 ∧
  ∀ (k : Kernel) (s : State),
    let p := ((opA k s).signExtend (2 * k.width) * (opB k s).signExtend (2 * k.width)).sshiftRight k.frac
    exec (.mul k) s = .next (completed ((p.setWidth k.width).signExtend 64) s)

/-- `MOD` is the remainder of the truncated division, with the sign of the dividend and below the divisor in
magnitude; 0 for a divisor of 0 (`42_convert_arith.md` R141, R161). -/
def Obligations.ModIsTheTruncatedRemainder : Prop :=
  Encoded .mod 0x34 0 ∧
  ∀ (k : Kernel) (s : State),
    let a := (opA k s).toInt
    let b := (opB k s).toInt
    (b = 0 → exec (.mod k) s = .next (completed 0 s)) ∧
    (b ≠ 0 → ∃ r : Int, r.natAbs < b.natAbs ∧ b ∣ a - r ∧ (0 ≤ a → 0 ≤ r) ∧ (a ≤ 0 → r ≤ 0) ∧
      exec (.mod k) s = .next (completed (BitVec.ofInt 64 r) s))

/-! ## Comparison, selection, interpolation, rounding -/

/-- The comparisons return 1 or 0 by the order of the signed raw integers, which is the order of the values
(`46_compare_round.md` R260 to R265, `00_scope.md` R10). -/
def Obligations.ComparisonsFollowSignedOrder : Prop :=
  Encoded .cmpeq 0x40 0 ∧ Encoded .cmpne 0x41 0 ∧ Encoded .cmplt 0x42 0 ∧ Encoded .cmple 0x43 0 ∧
  Encoded .cmpgt 0x44 0 ∧ Encoded .cmpge 0x45 0 ∧
  ∀ (k : Kernel) (s : State),
    let a := realValue k (opA k s)
    let b := realValue k (opB k s)
    exec (.cmpeq k) s = .next (completed (if a = b then 1 else 0) s) ∧
    exec (.cmpne k) s = .next (completed (if a = b then 0 else 1) s) ∧
    exec (.cmplt k) s = .next (completed (if a < b then 1 else 0) s) ∧
    exec (.cmple k) s = .next (completed (if b < a then 0 else 1) s) ∧
    exec (.cmpgt k) s = .next (completed (if b < a then 1 else 0) s) ∧
    exec (.cmpge k) s = .next (completed (if a < b then 0 else 1) s)

/-- `MIN` and `MAX` select by signed order; `CLAMP` limits to the interval, the upper bound first where the
interval is inverted (`46_compare_round.md` R266, R267, R268). -/
def Obligations.MinMaxClampSelect : Prop :=
  Encoded .min 0x46 0 ∧ Encoded .max 0x47 0 ∧ Encoded .clamp 0x48 0 ∧
  ∀ (k : Kernel) (s : State),
    let a := (opA k s).toInt
    let b := (opB k s).toInt
    let c := (opC k s).toInt
    exec (.min k) s = .next (completed (BitVec.ofInt 64 (min a b)) s) ∧
    exec (.max k) s = .next (completed (BitVec.ofInt 64 (max a b)) s) ∧
    (b ≤ c → exec (.clamp k) s = .next (completed (BitVec.ofInt 64 (min (max a b) c)) s)) ∧
    (c < b → exec (.clamp k) s = .next (completed (BitVec.ofInt 64 (if c < a then c else b)) s))

/-- `LERP` is the composition of `SUB`, two `MUL` and `ADD`; at 0 it returns its first operand and at raw 1.0
its second (`46_compare_round.md` R269). -/
def Obligations.LerpIsAComposition : Prop :=
  Encoded .lerp 0x49 0 ∧
  ∀ (k : Kernel) (s : State),
    (∃ d p q v, Yields (.sub k) (withPorts s (BitVec.ofNat 64 (2 ^ k.frac)) s.port.opc) d ∧
      Yields (.mul k) (withPorts s s.port.opa d) p ∧
      Yields (.mul k) (withPorts s s.port.opb s.port.opc) q ∧
      Yields (.add k) (withPorts s p q) v ∧ exec (.lerp k) s = .next (completed v s)) ∧
    (opC k s = 0 → exec (.lerp k) s = .next (completed ((opA k s).signExtend 64) s)) ∧
    ((opC k s).toInt = 2 ^ k.frac → exec (.lerp k) s = .next (completed ((opB k s).signExtend 64) s))

/-- `FLOOR`, `CEIL` and `ROUND` return the integral value below, above and nearest (ties up), the last two the
least value where their addition wraps; `FRACT` returns what `FLOOR` takes off
(`46_compare_round.md` R270 to R273). -/
def Obligations.RoundingToIntegralValues : Prop :=
  Encoded .floor 0x50 0 ∧ Encoded .ceil 0x51 0 ∧ Encoded .round 0x52 0 ∧ Encoded .fract 0x53 0 ∧
  ∀ (k : Kernel) (s : State),
    let v := (opA k s).toInt
    let q := realValue k (opA k s)
    let one : Int := 2 ^ k.frac
    let top : Int := 2 ^ (k.width - 1) - 1
    exec (.floor k) s = .next (completed (BitVec.ofInt 64 (⌊q⌋ * one)) s) ∧
    exec (.ceil k) s = .next (completed (BitVec.ofInt 64
      (if v ≤ top - (one - 1) then ⌈q⌉ * one else -top - 1)) s) ∧
    exec (.round k) s = .next (completed (BitVec.ofInt 64
      (if v ≤ top - 2 ^ (k.frac - 1) then ⌊q + 1 / 2⌋ * one else -top - 1)) s) ∧
    exec (.fract k) s = .next (completed (BitVec.ofInt 64 (v - ⌊q⌋ * one)) s)

/-! ## Division, reciprocal, roots -/

/-- Exact division: 0 for a divisor of 0 or the least value; in K32 the truncated quotient, wrapping; in K64
the greatest value where the quotient needs more than 64 bits, whatever the signs, else the truncated
quotient, wrapping (`43_div_root_rcp.md` R180, R181, R183). -/
def Obligations.ExactDivisionTruncatesWrapsOrSaturates : Prop :=
  Encoded .divX 0x60 0 ∧
  ∀ (k : Kernel) (s : State),
    let a := (opA k s).toInt
    let b := (opB k s).toInt
    let q := (a * 2 ^ k.frac).tdiv b
    ((b = 0 ∨ b = -(2 ^ (k.width - 1))) → exec (.divX k) s = .next (completed 0 s)) ∧
    (b ≠ 0 → b ≠ -(2 ^ (k.width - 1)) →
      exec (.divX k) s = .next (completed
        (if k = .k64 ∧ 2 ^ 64 ≤ q.natAbs then BitVec.ofInt 64 (2 ^ 63 - 1)
         else (BitVec.ofInt k.width q).signExtend 64) s))

/-- Exact division undoes multiplication when the product loses no bits and fits (`42_convert_arith.md` R160,
`43_div_root_rcp.md` R183, `94_test_vectors_properties.md`). -/
def Obligations.ExactDivisionUndoesExactMultiplication : Prop :=
  ∀ (k : Kernel) (s : State),
    let a := (opA k s).toInt
    let b := (opB k s).toInt
    b ≠ 0 → b ≠ -(2 ^ (k.width - 1)) → (2 : Int) ^ k.frac ∣ a * b →
    -(2 ^ (k.width - 1)) * 2 ^ k.frac ≤ a * b → a * b < 2 ^ (k.width - 1) * 2 ^ k.frac →
      ∃ p, Yields (.mul k) s p ∧
        exec (.divX k) (withPorts s p s.port.opb) =
          .next (completed ((opA k s).signExtend 64) (withPorts s p s.port.opb))

/-- Approximate division multiplies the dividend by the evaluator's reciprocal of the divisor's mantissa and
rescales (`43_div_root_rcp.md` R182, R184, R185). -/
def Obligations.ApproximateDivisionPipeline : Prop :=
  Encoded .divF 0x60 2 ∧ Encoded .divFF 0x60 3 ∧ DivTier .divF .f ∧ DivTier .divFF .ff

/-- The reciprocal takes the evaluator's reciprocal of the mantissa, reapplies the sign and rescales
(`43_div_root_rcp.md` R186 to R189). -/
def Obligations.ReciprocalPipeline : Prop :=
  Encoded .rcpP 0x61 1 ∧ Encoded .rcpF 0x61 2 ∧ Encoded .rcpFF 0x61 3 ∧
  RcpTier .rcpP .p ∧ RcpTier .rcpF .f ∧ RcpTier .rcpFF .ff

/-- The exact square root is the floor of the true root, 0 for an operand that is not positive
(`43_div_root_rcp.md` R190, R192). -/
def Obligations.ExactSquareRootIsTheFloor : Prop :=
  Encoded .sqrtX 0x62 0 ∧
  ∀ (k : Kernel) (s : State),
    let x := (opA k s).toInt
    (x ≤ 0 → exec (.sqrtX k) s = .next (completed 0 s)) ∧
    (0 < x → ∃ r : Int, 0 ≤ r ∧ r * r ≤ x * 2 ^ k.frac ∧ x * 2 ^ k.frac < (r + 1) * (r + 1) ∧
      r < 2 ^ (k.width - k.frac / 2) ∧
      exec (.sqrtX k) s = .next (completed (BitVec.ofInt 64 r) s))

/-- The approximate square root: the evaluator on the mantissa, the `sqrt 2` correction for an odd exponent,
the rescale by half the exponent (`43_div_root_rcp.md` R191, R193 to R195). -/
def Obligations.ApproximateSquareRootPipeline : Prop :=
  Encoded .sqrtP 0x62 1 ∧ Encoded .sqrtF 0x62 2 ∧ Encoded .sqrtFF 0x62 3 ∧
  SqrtTier .sqrtP .p ∧ SqrtTier .sqrtF .f ∧ SqrtTier .sqrtFF .ff

/-- On a ROM whose square-root evaluator stays between 0 and the bound of `43_div_root_rcp.md` R200 (a) on
`[0, 2^30)`, no approximate square root is negative (R191, R200). -/
def Obligations.SquareRootIsNotNegativeOnBoundedRom : Prop :=
  ∀ (k : Kernel) (s : State) (slot : Slot) (i : Kernel → Instr),
    (slot, i) ∈ [(Slot.p, Instr.sqrtP), (Slot.f, Instr.sqrtF), (Slot.ff, Instr.sqrtFF)] →
    (∀ c : Word, 0 ≤ c.toInt → c.toInt < 2 ^ 30 →
      0 ≤ (poly s.rom .sqrt slot c).toInt ∧ (poly s.rom .sqrt slot c).toInt ≤ 1518500249) →
      ∃ v : Port, Yields (i k) s v ∧ 0 ≤ v.toInt

/-- The reciprocal square root: the evaluator on the mantissa, the `1 / sqrt 2` correction for an odd exponent,
the rescale by half the exponent in the other direction (`43_div_root_rcp.md` R196 to R199). -/
def Obligations.ReciprocalSquareRootPipeline : Prop :=
  Encoded .rsqrtP 0x63 1 ∧ Encoded .rsqrtF 0x63 2 ∧ Encoded .rsqrtFF 0x63 3 ∧
  RsqrtTier .rsqrtP .p ∧ RsqrtTier .rsqrtF .f ∧ RsqrtTier .rsqrtFF .ff

/-! ## Exponential, logarithm, power -/

/-- The base-2 exponential: the greatest value from the bound up, 0 from minus the bound down, between them the
evaluator on the fraction shifted by the integer part (`44_exp_log_pow.md` R210 to R213). -/
def Obligations.BaseTwoExponentialPipeline : Prop :=
  Encoded .exp2P 0x70 1 ∧ Encoded .exp2F 0x70 2 ∧ Encoded .exp2FF 0x70 3 ∧
  Exp2Tier .exp2P .p ∧ Exp2Tier .exp2F .f ∧ Exp2Tier .exp2FF .ff

/-- `EXP` is `EXP2` of the `MUL` by the constant `RCP_LN2`, in the same tier (`44_exp_log_pow.md` R214 to
R217). -/
def Obligations.NaturalExponentialIsExp2OfTheProduct : Prop :=
  Encoded .expP 0x71 1 ∧ Encoded .expF 0x71 2 ∧ Encoded .expFF 0x71 3 ∧
  ExpTier .expP .exp2P ∧ ExpTier .expF .exp2F ∧ ExpTier .expFF .exp2FF

/-- The logarithms: 0 for an operand that is not positive, else the exponent, times `LN2` for the natural one,
plus the evaluator's logarithm of the mantissa (`44_exp_log_pow.md` R218 to R225). -/
def Obligations.LogarithmPipelines : Prop :=
  Encoded .log2P 0x72 1 ∧ Encoded .log2F 0x72 2 ∧ Encoded .log2FF 0x72 3 ∧
  Encoded .logP 0x73 1 ∧ Encoded .logF 0x73 2 ∧ Encoded .logFF 0x73 3 ∧
  Log2Tier .log2P .p ∧ Log2Tier .log2F .f ∧ Log2Tier .log2FF .ff ∧
  LogTier .logP .p ∧ LogTier .logF .f ∧ LogTier .logFF .ff

/-- The power: raw 1.0 for the exponent 0 before the base is looked at, 0 for a base that is not positive, else
`EXP` of the `MUL` of the exponent by `LOG` of the base (`44_exp_log_pow.md` R226 to R229). -/
def Obligations.PowerIsExpOfLog : Prop :=
  Encoded .powP 0x74 1 ∧ Encoded .powF 0x74 2 ∧ Encoded .powFF 0x74 3 ∧
  PowTier .powP .expP .logP ∧ PowTier .powF .expF .logF ∧ PowTier .powFF .expFF .logFF

/-! ## Trigonometry -/

/-- Sine: reduction to quarter turns, mirror, odd polynomial, rescale (`45_trig.md` R230 to R235). -/
def Obligations.SinePipeline : Prop :=
  Encoded .sinP 0x80 1 ∧ Encoded .sinF 0x80 2 ∧ Encoded .sinFF 0x80 3 ∧
  SinTier .sinP .p ∧ SinTier .sinF .f ∧ SinTier .sinFF .ff

/-- `COS` is bit for bit `SIN` of the `ADD` of the constant `PIHALF`, on every ROM (`45_trig.md` R236 to
R239). -/
def Obligations.CosineIsSineOfTheShiftedAngle : Prop :=
  Encoded .cosP 0x81 1 ∧ Encoded .cosF 0x81 2 ∧ Encoded .cosFF 0x81 3 ∧
  CosTier .cosP .sinP ∧ CosTier .cosF .sinF ∧ CosTier .cosFF .sinFF

/-- `TAN` is the `DIV` of its tier, exact for the precise tier, of the sine of the reduced angle by the sine a
quarter turn further; 0 where that is 0 (`45_trig.md` R240 to R243). -/
def Obligations.TangentIsTheQuotientOfTwoSines : Prop :=
  Encoded .tanP 0x82 1 ∧ Encoded .tanF 0x82 2 ∧ Encoded .tanFF 0x82 3 ∧
  TanTier .tanP .divX .p ∧ TanTier .tanF .divF .f ∧ TanTier .tanFF .divFF .ff

/-- The two-argument arctangent: the `x = 0` cases, the quotient of the smaller by the larger one's-complement
magnitude, and the sign and quadrant corrections (`45_trig.md` R244 to R248). -/
def Obligations.Atan2QuadrantReconstruction : Prop :=
  Encoded .atan2P 0x84 1 ∧ Encoded .atan2F 0x84 2 ∧ Encoded .atan2FF 0x84 3 ∧
  Atan2Tier .atan2P .p ∧ Atan2Tier .atan2F .f ∧ Atan2Tier .atan2FF .ff

/-- `ATAN` is `ATAN2` with raw 1.0 as the second operand (`45_trig.md` R249 to R252). -/
def Obligations.ArctangentIsAtan2WithOne : Prop :=
  Encoded .atanP 0x85 1 ∧ Encoded .atanF 0x85 2 ∧ Encoded .atanFF 0x85 3 ∧
  AtanTier .atanP .atan2P ∧ AtanTier .atanF .atan2F ∧ AtanTier .atanFF .atan2FF

/-- `ASIN` and `ACOS` are `ATAN2` of the operand and the root of `(1 + x)(1 - x)`, in the two orders, computed in
K64 for both kernels; 0 outside `[-1, 1]` (`45_trig.md` R253 to R259). -/
def Obligations.ArcsineAndArccosineThroughAtan2 : Prop :=
  Encoded .asinP 0x86 1 ∧ Encoded .asinF 0x86 2 ∧ Encoded .asinFF 0x86 3 ∧
  Encoded .acosP 0x87 1 ∧ Encoded .acosF 0x87 2 ∧ Encoded .acosFF 0x87 3 ∧
  InverseTier .asinP .atan2P .sqrtP (fun x t s => withPorts s x t) ∧
  InverseTier .asinF .atan2F .sqrtF (fun x t s => withPorts s x t) ∧
  InverseTier .asinFF .atan2FF .sqrtFF (fun x t s => withPorts s x t) ∧
  InverseTier .acosP .atan2P .sqrtP (fun x t s => withPorts s t x) ∧
  InverseTier .acosF .atan2F .sqrtF (fun x t s => withPorts s t x) ∧
  InverseTier .acosFF .atan2FF .sqrtFF (fun x t s => withPorts s t x)

/-! ## The domain policy -/

/-- Every input outside a function's valid domain is answered with 0 and no fault, on every ROM
(`60_exceptions.md` R314). -/
def Obligations.InvalidDomainsMapToZero : Prop :=
  ∀ (k : Kernel) (s : State) (i : Kernel → Instr),
    let a := (opA k s).toInt
    let b := (opB k s).toInt
    let least : Int := -(2 ^ (k.width - 1))
    (i ∈ [.divX, .divF, .divFF] ∧ (b = 0 ∨ b = least)) ∨
    (i = .mod ∧ b = 0) ∨
    (i = .ratio ∧ wordB s = 0) ∨
    (i ∈ [.rcpP, .rcpF, .rcpFF] ∧ (a = 0 ∨ a = least)) ∨
    (i ∈ [.sqrtX, .sqrtP, .sqrtF, .sqrtFF, .rsqrtP, .rsqrtF, .rsqrtFF] ∧ a ≤ 0) ∨
    (i ∈ [.log2P, .log2F, .log2FF, .logP, .logF, .logFF] ∧ a ≤ 0) ∨
    (i ∈ [.powP, .powF, .powFF] ∧ a ≤ 0 ∧ b ≠ 0) ∨
    (i ∈ [.asinP, .asinF, .asinFF, .acosP, .acosF, .acosFF] ∧ (a < -(2 ^ k.frac) ∨ 2 ^ k.frac < a)) ∨
    (∃ slot, (i, slot) ∈ [(Instr.tanP, Slot.p), (Instr.tanF, Slot.f), (Instr.tanFF, Slot.ff)] ∧
      sineAt s.rom k slot (quarterTurns k (opA k s) + 0x40000000#32) 0) →
    exec (i k) s = .next (completed 0 s)
end

