-- ==== Sys2Proof/Laws/Datapath.lean ====
section
/-! SUPPORT. One lemma for each datapath function and helper: what it computes, in the terms of the library. -/

namespace Sys2Proof.Machine

/-! ## Arithmetic helpers -/

theorem addK_eq (k : Kernel) (a b : Raw k) : addK k a b = a + b := by
  simp [addK, BitVec.ofInt_add]

theorem subK_eq (k : Kernel) (a b : Raw k) : subK k a b = a - b := by
  rw [subK, Int.sub_eq_add_neg, BitVec.ofInt_add, BitVec.ofInt_neg, BitVec.ofInt_toInt,
    BitVec.ofInt_toInt, BitVec.sub_eq_add_neg]

theorem negK_eq (k : Kernel) (a : Raw k) : negK k a = -a := by
  rw [negK, BitVec.ofInt_neg, BitVec.ofInt_toInt]

/-- The quotient of the spec is the library's quotient truncated toward zero. -/
theorem tdiv_eq_tdiv (p q : Int) : tdiv p q = p.tdiv q := by
  unfold tdiv
  rcases Int.eq_nat_or_neg p with ⟨a, rfl | rfl⟩ <;> rcases Int.eq_nat_or_neg q with ⟨b, rfl | rfl⟩ <;>
    rcases a with _ | a <;> rcases b with _ | b <;>
    simp [Int.natAbs_neg, Int.neg_tdiv, Int.tdiv_neg, -Nat.cast_add, -Int.natCast_add] <;>
    rw [Int.sign_eq_one_of_pos (by omega), Int.sign_eq_one_of_pos (by omega), Int.mul_one, Int.one_mul]

theorem modK_eq (k : Kernel) (a b : Raw k) :
    modK k a b = if b.toInt = 0 then 0 else BitVec.ofInt k.width (a.toInt.tmod b.toInt) := by
  unfold modK
  rw [tdiv_eq_tdiv, Int.tmod_def]

/-! ## Leading zeros -/

theorem clz_zero {n : Nat} {u : BitVec n} (h : u.toNat = 0) : clz u = n := if_pos h

theorem clz_of_ne_zero {n : Nat} {u : BitVec n} (h : u.toNat ≠ 0) :
    clz u = n - 1 - Nat.log2 u.toNat := if_neg h

theorem log2_lt_width {n : Nat} {u : BitVec n} (h : u.toNat ≠ 0) : Nat.log2 u.toNat < n :=
  (Nat.log2_lt h).2 u.isLt

theorem msbIndex_of_ne_zero {n : Nat} {u : BitVec n} (h : u.toNat ≠ 0) :
    msbIndex u = (Nat.log2 u.toNat : Int) := by
  have hl := log2_lt_width h
  rw [msbIndex, clz_of_ne_zero h]
  omega

/-- The index of the top 1 bit is the only one with that bit's bounds. -/
theorem log2_eq_of_bounds {u m : Nat} (hlo : 2 ^ m ≤ u) (hhi : u < 2 ^ (m + 1)) : Nat.log2 u = m := by
  have hu : u ≠ 0 := by have := Nat.two_pow_pos m; omega
  exact (Nat.log2_eq_iff hu).2 ⟨hlo, hhi⟩

/-! ## The shifter -/

theorem shr_logical_right {w : Nat} (v : BitVec w) {n : Int} (h0 : 0 ≤ n) (hw : n < w) :
    shr .logical v n = v >>> n.toNat := by
  rw [shr, if_pos ⟨h0, hw⟩]
  apply BitVec.eq_of_toNat_eq
  rw [BitVec.toNat_ofNat, BitVec.toNat_ushiftRight, Nat.shiftRight_eq_div_pow]
  exact Nat.mod_eq_of_lt (Nat.lt_of_le_of_lt (Nat.div_le_self _ _) v.isLt)

theorem shr_arithmetic_right {w : Nat} (v : BitVec w) {n : Int} (h0 : 0 ≤ n) (hw : n < w) :
    shr .arithmetic v n = v.sshiftRight n.toNat := by
  rw [shr, if_pos ⟨h0, hw⟩]
  show BitVec.ofInt w (v.toInt / 2 ^ n.toNat) = BitVec.ofInt w (v.toInt >>> n.toNat)
  rw [Int.shiftRight_eq_div_pow]
  simp

theorem shr_left {w : Nat} (mode : ShiftMode) (v : BitVec w) {n : Int} (hw : -(w : Int) < n) (h0 : n < 0) :
    shr mode v n = v <<< (-n).toNat := by
  unfold shr
  rw [if_neg (by omega), if_pos ⟨hw, h0⟩]
  apply BitVec.eq_of_toNat_eq
  rw [BitVec.toNat_ofNat, BitVec.toNat_shiftLeft, Nat.shiftLeft_eq]

theorem shr_away {w : Nat} (mode : ShiftMode) (v : BitVec w) {n : Int} (h : n ≤ -(w : Int) ∨ (w : Int) ≤ n) :
    shr mode v n = 0 := by
  unfold shr
  rw [if_neg (by omega), if_neg (by omega)]

/-! ## The evaluator -/

theorem horner_succ (coef : Nat → Word) (k : Word) (i : Nat) :
    horner coef k (i + 1) = fma30 k (horner coef k i) (coef (i + 1)) := rfl

/-! ## The integer square root -/

/-- The digit loop: with a root that is a lower bound and short of the truth by less than `2^b`, the loop over
`b` digits ends at the floor. -/
theorem isqrtDigits_spec (n b : Nat) : ∀ r : Nat, r * r ≤ n → n < (r + 2 ^ b) * (r + 2 ^ b) →
    isqrtDigits n b r * isqrtDigits n b r ≤ n ∧
      n < (isqrtDigits n b r + 1) * (isqrtDigits n b r + 1) := by
  induction b with
  | zero => exact fun r hlo hhi => ⟨hlo, hhi⟩
  | succ b ih =>
    intro r hlo hhi
    rw [isqrtDigits]
    split
    · refine ih _ ‹_› ?_
      have : r + 2 ^ b + 2 ^ b = r + 2 ^ (b + 1) := by ring
      rwa [this]
    · exact ih r hlo (by omega)

/-- `isqrt` is the floor of the square root. -/
theorem isqrt_spec (n : Nat) : isqrt n * isqrt n ≤ n ∧ n < (isqrt n + 1) * (isqrt n + 1) := by
  apply isqrtDigits_spec
  · simp
  · have hlt : n < 2 ^ (Nat.log2 n + 1) := Nat.lt_log2_self
    have hle : Nat.log2 n + 1 ≤ 2 * (Nat.log2 n / 2 + 1) := by omega
    calc n < 2 ^ (Nat.log2 n + 1) := hlt
      _ ≤ 2 ^ (2 * (Nat.log2 n / 2 + 1)) := Nat.pow_le_pow_right (by decide) hle
      _ = (0 + 2 ^ (Nat.log2 n / 2 + 1)) * (0 + 2 ^ (Nat.log2 n / 2 + 1)) := by ring

theorem isqrt_eq_sqrt (n : Nat) : isqrt n = Nat.sqrt n := by
  have h := isqrt_spec n
  exact Nat.eq_sqrt.2 h

end Sys2Proof.Machine
end

