-- ==== Sys2Proof/Laws/State.lean ====
section
/-! SUPPORT. One lemma per field for every operation that updates the state. -/

namespace Sys2Proof.Machine

@[simp] theorem accept_flt (c : Command) (rest : List HostEvent) (s : State) :
    (accept c rest s).flt = s.flt := rfl

@[simp] theorem accept_rom (c : Command) (rest : List HostEvent) (s : State) :
    (accept c rest s).rom = s.rom := rfl

@[simp] theorem accept_port (c : Command) (rest : List HostEvent) (s : State) :
    (accept c rest s).port = c := rfl

@[simp] theorem accept_host (c : Command) (rest : List HostEvent) (s : State) :
    (accept c rest s).host = rest := rfl

@[simp] theorem accept_responses (c : Command) (rest : List HostEvent) (s : State) :
    (accept c rest s).responses = s.responses := rfl

@[simp] theorem deliver_flt (r : Response) (s : State) :
    (deliver r s).flt = s.flt := rfl

@[simp] theorem deliver_rom (r : Response) (s : State) :
    (deliver r s).rom = s.rom := rfl

@[simp] theorem deliver_port (r : Response) (s : State) :
    (deliver r s).port = s.port := rfl

@[simp] theorem deliver_host (r : Response) (s : State) :
    (deliver r s).host = s.host := rfl

@[simp] theorem deliver_responses (r : Response) (s : State) :
    (deliver r s).responses = s.responses ++ [r] := rfl

@[simp] theorem completed_flt (v : Port) (s : State) :
    (completed v s).flt = s.flt := rfl

@[simp] theorem completed_rom (v : Port) (s : State) :
    (completed v s).rom = s.rom := rfl

@[simp] theorem completed_port (v : Port) (s : State) :
    (completed v s).port = s.port := rfl

@[simp] theorem completed_host (v : Port) (s : State) :
    (completed v s).host = s.host := rfl

@[simp] theorem completed_responses (v : Port) (s : State) :
    (completed v s).responses = s.responses ++ [{ flt := .none, res := v }] := rfl

@[simp] theorem latchFault_flt (c : FaultCode) (s : State) :
    (latchFault c s).flt = c := rfl

@[simp] theorem latchFault_rom (c : FaultCode) (s : State) :
    (latchFault c s).rom = s.rom := rfl

@[simp] theorem latchFault_port (c : FaultCode) (s : State) :
    (latchFault c s).port = s.port := rfl

@[simp] theorem latchFault_host (c : FaultCode) (s : State) :
    (latchFault c s).host = s.host := rfl

@[simp] theorem latchFault_responses (c : FaultCode) (s : State) :
    (latchFault c s).responses = s.responses ++ [{ flt := c, res := 0 }] := rfl

@[simp] theorem applyReset_flt (rest : List HostEvent) (s : State) :
    (applyReset rest s).flt = .none := rfl

@[simp] theorem applyReset_rom (rest : List HostEvent) (s : State) :
    (applyReset rest s).rom = s.rom := rfl

@[simp] theorem applyReset_port (rest : List HostEvent) (s : State) :
    (applyReset rest s).port = s.port := rfl

@[simp] theorem applyReset_host (rest : List HostEvent) (s : State) :
    (applyReset rest s).host = rest := rfl

@[simp] theorem applyReset_responses (rest : List HostEvent) (s : State) :
    (applyReset rest s).responses = s.responses := rfl

@[simp] theorem presentWord_flt (s : State) (w : Word) :
    (presentWord s w).flt = .none := rfl

@[simp] theorem presentWord_rom (s : State) (w : Word) :
    (presentWord s w).rom = s.rom := rfl

@[simp] theorem presentWord_port (s : State) (w : Word) :
    (presentWord s w).port = s.port := rfl

@[simp] theorem presentWord_host (s : State) (w : Word) :
    (presentWord s w).host = .command { s.port with word := w } :: s.host := rfl

@[simp] theorem presentWord_responses (s : State) (w : Word) :
    (presentWord s w).responses = s.responses := rfl

@[simp] theorem reset_flt : State.reset.flt = .none := rfl

@[simp] theorem reset_rom : State.reset.rom = configRom := rfl

@[simp] theorem reset_host : State.reset.host = [] := rfl

@[simp] theorem reset_responses : State.reset.responses = [] := rfl

/-! ## Operands -/

@[simp] theorem opA_accept (k : Kernel) (c : Command) (rest : List HostEvent) (s : State) :
    opA k (accept c rest s) = c.opa.setWidth k.width := rfl

@[simp] theorem opB_accept (k : Kernel) (c : Command) (rest : List HostEvent) (s : State) :
    opB k (accept c rest s) = c.opb.setWidth k.width := rfl

@[simp] theorem opC_accept (k : Kernel) (c : Command) (rest : List HostEvent) (s : State) :
    opC k (accept c rest s) = c.opc.setWidth k.width := rfl

@[simp] theorem wordA_accept (c : Command) (rest : List HostEvent) (s : State) :
    wordA (accept c rest s) = c.opa.setWidth 32 := rfl

@[simp] theorem wordB_accept (c : Command) (rest : List HostEvent) (s : State) :
    wordB (accept c rest s) = c.opb.setWidth 32 := rfl

@[simp] theorem wordC_accept (c : Command) (rest : List HostEvent) (s : State) :
    wordC (accept c rest s) = c.opc.setWidth 32 := rfl

theorem opA_k32 (s : State) : opA .k32 s = wordA s := rfl

theorem opB_k32 (s : State) : opB .k32 s = wordB s := rfl

theorem opC_k32 (s : State) : opC .k32 s = wordC s := rfl

theorem opA_k64 (s : State) : opA .k64 s = s.port.opa := BitVec.setWidth_eq _

theorem opB_k64 (s : State) : opB .k64 s = s.port.opb := BitVec.setWidth_eq _

theorem opC_k64 (s : State) : opC .k64 s = s.port.opc := BitVec.setWidth_eq _

end Sys2Proof.Machine
end

