-- ==== Sys2Proof/Laws/Ops.lean ====
section
/-! SUPPORT. One lemma for each shared operation on the state: everything it can do. -/

namespace Sys2Proof.Machine

/-! ## Completing and faulting -/

theorem complete_eq (v : Port) (s : State) : complete v s = .next (completed v s) := rfl

theorem raiseFault_eq (c : FaultCode) (s : State) : raiseFault c s = .next (latchFault c s) := rfl

theorem completed_inj {v w : Port} {s : State} (h : completed v s = completed w s) : v = w := by
  have hr := congrArg State.responses h
  simpa using hr

/-! ## Results -/

theorem signedResult_eq {n : Nat} (v : BitVec n) : signedResult v = v.signExtend 64 := rfl

@[simp] theorem signedResult_zero (n : Nat) : signedResult (0 : BitVec n) = 0 := by
  show BitVec.ofInt 64 (0#n).toInt = 0
  simp

/-- The result of a kernel-width operation, read back as an operand of that width, is the same value. -/
theorem signedResult_setWidth (k : Kernel) (v : Raw k) : (signedResult v).setWidth k.width = v := by
  cases k
  · show (BitVec.signExtend 64 v).setWidth 32 = v
    apply BitVec.eq_of_getLsbD_eq
    intro i hi
    simp [BitVec.getLsbD_signExtend, hi]
    omega
  · show (BitVec.signExtend 64 v).setWidth 64 = v
    rw [BitVec.setWidth_eq]
    exact BitVec.signExtend_eq v

/-! ## Instructions -/

/-- What an instruction can do on a running unit: complete with a result, or, if it is `NARROW` or `LUTRD`,
take its fault. -/
theorem exec_cases (i : Instr) (s : State) :
    (∃ v, exec i s = .next (completed v s)) ∨
      (i = .narrow ∧ exec i s = .next (latchFault .notImplemented s)) ∨
      (∃ fn slot, (i = .lutrdP fn ∧ slot = Slot.p ∨ i = .lutrdF fn ∧ slot = Slot.f ∨
          i = .lutrdFF fn ∧ slot = Slot.ff) ∧
        (evaluator s.rom fn slot).degree < (wordB s).toNat ∧
        exec i s = .next (latchFault .romIndex s)) := by
  have lut : ∀ slot fn, lutrdNext slot fn s = latchFault .romIndex s ∧
      (evaluator s.rom fn slot).degree < (wordB s).toNat ∨ ∃ v, lutrdNext slot fn s = completed v s := by
    intro slot fn
    unfold lutrdNext
    split
    · exact .inl ⟨rfl, ‹_›⟩
    · exact .inr ⟨_, rfl⟩
  cases i with
  | narrow => exact .inr (.inl ⟨rfl, rfl⟩)
  | lutrdP fn =>
    rcases lut .p fn with ⟨h, hd⟩ | ⟨v, h⟩
    · exact .inr (.inr ⟨fn, .p, .inl ⟨rfl, rfl⟩, hd, congrArg Host.Outcome.next h⟩)
    · exact .inl ⟨v, congrArg Host.Outcome.next h⟩
  | lutrdF fn =>
    rcases lut .f fn with ⟨h, hd⟩ | ⟨v, h⟩
    · exact .inr (.inr ⟨fn, .f, .inr (.inl ⟨rfl, rfl⟩), hd, congrArg Host.Outcome.next h⟩)
    · exact .inl ⟨v, congrArg Host.Outcome.next h⟩
  | lutrdFF fn =>
    rcases lut .ff fn with ⟨h, hd⟩ | ⟨v, h⟩
    · exact .inr (.inr ⟨fn, .ff, .inr (.inr ⟨rfl, rfl⟩), hd, congrArg Host.Outcome.next h⟩)
    · exact .inl ⟨v, congrArg Host.Outcome.next h⟩
  | _ => exact .inl ⟨_, rfl⟩

/-! ## Taking a command and an event -/

theorem execCommand_halted {s : State} (h : s.flt ≠ .none) :
    execCommand s = .next (deliver { flt := s.flt, res := 0 } s) := by
  unfold execCommand
  rw [if_pos h]
  rfl

theorem execCommand_illegal {s : State} {e : Illegal} (h : s.flt = .none)
    (hd : decode s.port.word = .error e) : execCommand s = .next (latchFault .illegalCommand s) := by
  unfold execCommand
  rw [if_neg (not_not.mpr h), hd]
  rfl

theorem execCommand_legal {s : State} {i : Instr} (h : s.flt = .none)
    (hd : decode s.port.word = .ok i) : execCommand s = exec i s := by
  unfold execCommand
  rw [if_neg (not_not.mpr h), hd]

/-- What the unit does with a sampled command: answer halted, complete, or latch a fault. -/
theorem execCommand_cases (s : State) :
    (s.flt ≠ .none ∧ execCommand s = .next (deliver { flt := s.flt, res := 0 } s)) ∨
      (s.flt = .none ∧ ∃ v, execCommand s = .next (completed v s)) ∨
      (s.flt = .none ∧ ∃ c, c ≠ FaultCode.none ∧ execCommand s = .next (latchFault c s)) := by
  by_cases h : s.flt = .none
  · right
    cases hd : decode s.port.word with
    | error e => exact .inr ⟨h, .illegalCommand, by decide, execCommand_illegal h hd⟩
    | ok i =>
      rw [execCommand_legal h hd]
      rcases exec_cases i s with ⟨v, hv⟩ | ⟨-, hv⟩ | ⟨_, _, _, _, hv⟩
      · exact .inl ⟨h, v, hv⟩
      · exact .inr ⟨h, _, by decide, hv⟩
      · exact .inr ⟨h, _, by decide, hv⟩
  · exact .inl ⟨h, execCommand_halted h⟩

theorem step_idle {s : State} (h : s.host = []) : step s = .next s := by
  unfold step takeEvent
  rw [h]

theorem step_reset {s : State} {lost : List Command} {rest : List HostEvent} (h : s.host = .reset lost :: rest) :
    step s = .next (applyReset rest s) := by
  unfold step takeEvent
  rw [h]

theorem step_command {s : State} {c : Command} {rest : List HostEvent}
    (h : s.host = .command c :: rest) : step s = execCommand (accept c rest s) := by
  unfold step takeEvent
  rw [h]

/-- Everything a step can do: stay idle, be reset, answer halted, complete a command, or take a fault. -/
theorem step_cases {s t : State} (h : step s = .next t) :
    (s.host = [] ∧ t = s) ∨
      (∃ lost rest, s.host = .reset lost :: rest ∧ t = applyReset rest s) ∨
      (∃ c rest, s.host = .command c :: rest ∧
        ((s.flt ≠ .none ∧ t = deliver { flt := s.flt, res := 0 } (accept c rest s)) ∨
          (s.flt = .none ∧ ∃ v, t = completed v (accept c rest s)) ∨
          (s.flt = .none ∧ ∃ f, f ≠ FaultCode.none ∧ t = latchFault f (accept c rest s)))) := by
  rcases hh : s.host with _ | ⟨_ | lost, rest⟩
  · rw [step_idle hh] at h
    exact .inl ⟨rfl, (Host.Outcome.next.inj h).symm⟩
  · rename_i c
    rw [step_command hh] at h
    refine .inr (.inr ⟨c, rest, rfl, ?_⟩)
    rcases execCommand_cases (accept c rest s) with ⟨hf, he⟩ | ⟨hf, v, he⟩ | ⟨hf, f, hne, he⟩
    · rw [he] at h
      exact .inl ⟨hf, (Host.Outcome.next.inj h).symm⟩
    · rw [he] at h
      exact .inr (.inl ⟨hf, v, (Host.Outcome.next.inj h).symm⟩)
    · rw [he] at h
      exact .inr (.inr ⟨hf, f, hne, (Host.Outcome.next.inj h).symm⟩)
  · rw [step_reset hh] at h
    exact .inr (.inl ⟨lost, rest, rfl, (Host.Outcome.next.inj h).symm⟩)

end Sys2Proof.Machine
end

