-- ==== Sys2Proof/Laws/PerInstr.lean ====
section
/-! SUPPORT. The families of statements made for every instruction. `RowMatch`: the word of an instruction
selects its own row of `opcode_table.json`, `w & mask = match` (`30_encoding.md` R68). -/

namespace Sys2Proof.Laws

/-- `match` and `mask` of an instruction's row of `opcode_table.json` (`30_encoding.md` R68). -/
def tableRow : Instr → Word × Word
  | .clz _ => (0x00000001, 0xFFFFFEFF)
  | .shrL _ => (0x00000002, 0xFFFFFEFF)
  | .shrA _ => (0x00000802, 0xFFFFFEFF)
  | .norm _ => (0x00000003, 0xFFFFFEFF)
  | .qmul30 => (0x00000010, 0xFFFFFFFF)
  | .fma30 => (0x00000011, 0xFFFFFFFF)
  | .polyP _ => (0x00000212, 0xFFFE0FFF)
  | .polyF _ => (0x00000412, 0xFFFE0FFF)
  | .polyFF _ => (0x00000612, 0xFFFE0FFF)
  | .lutrdP _ => (0x00000213, 0xFFFE0FFF)
  | .lutrdF _ => (0x00000413, 0xFFFE0FFF)
  | .lutrdFF _ => (0x00000613, 0xFFFE0FFF)
  | .fromint _ => (0x00000020, 0xFFFFFEFF)
  | .fromf32 _ => (0x00000021, 0xFFFFFEFF)
  | .fromf64 _ => (0x00000022, 0xFFFFFEFF)
  | .tointf _ => (0x00000023, 0xFFFFFEFF)
  | .tointc _ => (0x00000024, 0xFFFFFEFF)
  | .tointr _ => (0x00000025, 0xFFFFFEFF)
  | .tof32 _ => (0x00000026, 0xFFFFFEFF)
  | .tof64 _ => (0x00000027, 0xFFFFFEFF)
  | .ratio _ => (0x00000028, 0xFFFFFEFF)
  | .ratio10 _ => (0x00000029, 0xFFFFFEFF)
  | .ratio100 _ => (0x0000002A, 0xFFFFFEFF)
  | .ratio1000 _ => (0x0000002B, 0xFFFFFEFF)
  | .widen => (0x0000002C, 0xFFFFFFFF)
  | .narrow => (0x0000012D, 0xFFFFFFFF)
  | .const _ _ => (0x0000002E, 0xFFFE0EFF)
  | .add _ => (0x00000030, 0xFFFFFEFF)
  | .sub _ => (0x00000031, 0xFFFFFEFF)
  | .neg _ => (0x00000032, 0xFFFFFEFF)
  | .mul _ => (0x00000033, 0xFFFFFEFF)
  | .mod _ => (0x00000034, 0xFFFFFEFF)
  | .cmpeq _ => (0x00000040, 0xFFFFFEFF)
  | .cmpne _ => (0x00000041, 0xFFFFFEFF)
  | .cmplt _ => (0x00000042, 0xFFFFFEFF)
  | .cmple _ => (0x00000043, 0xFFFFFEFF)
  | .cmpgt _ => (0x00000044, 0xFFFFFEFF)
  | .cmpge _ => (0x00000045, 0xFFFFFEFF)
  | .min _ => (0x00000046, 0xFFFFFEFF)
  | .max _ => (0x00000047, 0xFFFFFEFF)
  | .clamp _ => (0x00000048, 0xFFFFFEFF)
  | .lerp _ => (0x00000049, 0xFFFFFEFF)
  | .floor _ => (0x00000050, 0xFFFFFEFF)
  | .ceil _ => (0x00000051, 0xFFFFFEFF)
  | .round _ => (0x00000052, 0xFFFFFEFF)
  | .fract _ => (0x00000053, 0xFFFFFEFF)
  | .divX _ => (0x00000060, 0xFFFFFEFF)
  | .divF _ => (0x00000460, 0xFFFFFEFF)
  | .divFF _ => (0x00000660, 0xFFFFFEFF)
  | .rcpP _ => (0x00000261, 0xFFFFFEFF)
  | .rcpF _ => (0x00000461, 0xFFFFFEFF)
  | .rcpFF _ => (0x00000661, 0xFFFFFEFF)
  | .sqrtX _ => (0x00000062, 0xFFFFFEFF)
  | .sqrtP _ => (0x00000262, 0xFFFFFEFF)
  | .sqrtF _ => (0x00000462, 0xFFFFFEFF)
  | .sqrtFF _ => (0x00000662, 0xFFFFFEFF)
  | .rsqrtP _ => (0x00000263, 0xFFFFFEFF)
  | .rsqrtF _ => (0x00000463, 0xFFFFFEFF)
  | .rsqrtFF _ => (0x00000663, 0xFFFFFEFF)
  | .exp2P _ => (0x00000270, 0xFFFFFEFF)
  | .exp2F _ => (0x00000470, 0xFFFFFEFF)
  | .exp2FF _ => (0x00000670, 0xFFFFFEFF)
  | .expP _ => (0x00000271, 0xFFFFFEFF)
  | .expF _ => (0x00000471, 0xFFFFFEFF)
  | .expFF _ => (0x00000671, 0xFFFFFEFF)
  | .log2P _ => (0x00000272, 0xFFFFFEFF)
  | .log2F _ => (0x00000472, 0xFFFFFEFF)
  | .log2FF _ => (0x00000672, 0xFFFFFEFF)
  | .logP _ => (0x00000273, 0xFFFFFEFF)
  | .logF _ => (0x00000473, 0xFFFFFEFF)
  | .logFF _ => (0x00000673, 0xFFFFFEFF)
  | .powP _ => (0x00000274, 0xFFFFFEFF)
  | .powF _ => (0x00000474, 0xFFFFFEFF)
  | .powFF _ => (0x00000674, 0xFFFFFEFF)
  | .sinP _ => (0x00000280, 0xFFFFFEFF)
  | .sinF _ => (0x00000480, 0xFFFFFEFF)
  | .sinFF _ => (0x00000680, 0xFFFFFEFF)
  | .cosP _ => (0x00000281, 0xFFFFFEFF)
  | .cosF _ => (0x00000481, 0xFFFFFEFF)
  | .cosFF _ => (0x00000681, 0xFFFFFEFF)
  | .tanP _ => (0x00000282, 0xFFFFFEFF)
  | .tanF _ => (0x00000482, 0xFFFFFEFF)
  | .tanFF _ => (0x00000682, 0xFFFFFEFF)
  | .atan2P _ => (0x00000284, 0xFFFFFEFF)
  | .atan2F _ => (0x00000484, 0xFFFFFEFF)
  | .atan2FF _ => (0x00000684, 0xFFFFFEFF)
  | .atanP _ => (0x00000285, 0xFFFFFEFF)
  | .atanF _ => (0x00000485, 0xFFFFFEFF)
  | .atanFF _ => (0x00000685, 0xFFFFFEFF)
  | .asinP _ => (0x00000286, 0xFFFFFEFF)
  | .asinF _ => (0x00000486, 0xFFFFFEFF)
  | .asinFF _ => (0x00000686, 0xFFFFFEFF)
  | .acosP _ => (0x00000287, 0xFFFFFEFF)
  | .acosF _ => (0x00000487, 0xFFFFFEFF)
  | .acosFF _ => (0x00000687, 0xFFFFFEFF)

/-- The word of the instruction selects its row of the table. -/
def RowMatch.Statement (i : Instr) : Prop := encode i &&& (tableRow i).2 = (tableRow i).1

theorem RowMatch.clz (k : Kernel) : RowMatch.Statement (.clz k) := by cases k <;> rfl

theorem RowMatch.shrL (k : Kernel) : RowMatch.Statement (.shrL k) := by cases k <;> rfl

theorem RowMatch.shrA (k : Kernel) : RowMatch.Statement (.shrA k) := by cases k <;> rfl

theorem RowMatch.norm (k : Kernel) : RowMatch.Statement (.norm k) := by cases k <;> rfl

theorem RowMatch.qmul30 : RowMatch.Statement .qmul30 := rfl

theorem RowMatch.fma30 : RowMatch.Statement .fma30 := rfl

theorem RowMatch.polyP (fn : EvalFn) : RowMatch.Statement (.polyP fn) := by cases fn <;> rfl

theorem RowMatch.polyF (fn : EvalFn) : RowMatch.Statement (.polyF fn) := by cases fn <;> rfl

theorem RowMatch.polyFF (fn : EvalFn) : RowMatch.Statement (.polyFF fn) := by cases fn <;> rfl

theorem RowMatch.lutrdP (fn : EvalFn) : RowMatch.Statement (.lutrdP fn) := by cases fn <;> rfl

theorem RowMatch.lutrdF (fn : EvalFn) : RowMatch.Statement (.lutrdF fn) := by cases fn <;> rfl

theorem RowMatch.lutrdFF (fn : EvalFn) : RowMatch.Statement (.lutrdFF fn) := by cases fn <;> rfl

theorem RowMatch.fromint (k : Kernel) : RowMatch.Statement (.fromint k) := by cases k <;> rfl

theorem RowMatch.fromf32 (k : Kernel) : RowMatch.Statement (.fromf32 k) := by cases k <;> rfl

theorem RowMatch.fromf64 (k : Kernel) : RowMatch.Statement (.fromf64 k) := by cases k <;> rfl

theorem RowMatch.tointf (k : Kernel) : RowMatch.Statement (.tointf k) := by cases k <;> rfl

theorem RowMatch.tointc (k : Kernel) : RowMatch.Statement (.tointc k) := by cases k <;> rfl

theorem RowMatch.tointr (k : Kernel) : RowMatch.Statement (.tointr k) := by cases k <;> rfl

theorem RowMatch.tof32 (k : Kernel) : RowMatch.Statement (.tof32 k) := by cases k <;> rfl

theorem RowMatch.tof64 (k : Kernel) : RowMatch.Statement (.tof64 k) := by cases k <;> rfl

theorem RowMatch.ratio (k : Kernel) : RowMatch.Statement (.ratio k) := by cases k <;> rfl

theorem RowMatch.ratio10 (k : Kernel) : RowMatch.Statement (.ratio10 k) := by cases k <;> rfl

theorem RowMatch.ratio100 (k : Kernel) : RowMatch.Statement (.ratio100 k) := by cases k <;> rfl

theorem RowMatch.ratio1000 (k : Kernel) : RowMatch.Statement (.ratio1000 k) := by cases k <;> rfl

theorem RowMatch.widen : RowMatch.Statement .widen := rfl

theorem RowMatch.narrow : RowMatch.Statement .narrow := rfl

theorem RowMatch.const (k : Kernel) (id : ConstName) : RowMatch.Statement (.const k id) := by
  cases k <;> rcases id with c | c <;> cases c <;> rfl

theorem RowMatch.add (k : Kernel) : RowMatch.Statement (.add k) := by cases k <;> rfl

theorem RowMatch.sub (k : Kernel) : RowMatch.Statement (.sub k) := by cases k <;> rfl

theorem RowMatch.neg (k : Kernel) : RowMatch.Statement (.neg k) := by cases k <;> rfl

theorem RowMatch.mul (k : Kernel) : RowMatch.Statement (.mul k) := by cases k <;> rfl

theorem RowMatch.mod (k : Kernel) : RowMatch.Statement (.mod k) := by cases k <;> rfl

theorem RowMatch.cmpeq (k : Kernel) : RowMatch.Statement (.cmpeq k) := by cases k <;> rfl

theorem RowMatch.cmpne (k : Kernel) : RowMatch.Statement (.cmpne k) := by cases k <;> rfl

theorem RowMatch.cmplt (k : Kernel) : RowMatch.Statement (.cmplt k) := by cases k <;> rfl

theorem RowMatch.cmple (k : Kernel) : RowMatch.Statement (.cmple k) := by cases k <;> rfl

theorem RowMatch.cmpgt (k : Kernel) : RowMatch.Statement (.cmpgt k) := by cases k <;> rfl

theorem RowMatch.cmpge (k : Kernel) : RowMatch.Statement (.cmpge k) := by cases k <;> rfl

theorem RowMatch.min (k : Kernel) : RowMatch.Statement (.min k) := by cases k <;> rfl

theorem RowMatch.max (k : Kernel) : RowMatch.Statement (.max k) := by cases k <;> rfl

theorem RowMatch.clamp (k : Kernel) : RowMatch.Statement (.clamp k) := by cases k <;> rfl

theorem RowMatch.lerp (k : Kernel) : RowMatch.Statement (.lerp k) := by cases k <;> rfl

theorem RowMatch.floor (k : Kernel) : RowMatch.Statement (.floor k) := by cases k <;> rfl

theorem RowMatch.ceil (k : Kernel) : RowMatch.Statement (.ceil k) := by cases k <;> rfl

theorem RowMatch.round (k : Kernel) : RowMatch.Statement (.round k) := by cases k <;> rfl

theorem RowMatch.fract (k : Kernel) : RowMatch.Statement (.fract k) := by cases k <;> rfl

theorem RowMatch.divX (k : Kernel) : RowMatch.Statement (.divX k) := by cases k <;> rfl

theorem RowMatch.divF (k : Kernel) : RowMatch.Statement (.divF k) := by cases k <;> rfl

theorem RowMatch.divFF (k : Kernel) : RowMatch.Statement (.divFF k) := by cases k <;> rfl

theorem RowMatch.rcpP (k : Kernel) : RowMatch.Statement (.rcpP k) := by cases k <;> rfl

theorem RowMatch.rcpF (k : Kernel) : RowMatch.Statement (.rcpF k) := by cases k <;> rfl

theorem RowMatch.rcpFF (k : Kernel) : RowMatch.Statement (.rcpFF k) := by cases k <;> rfl

theorem RowMatch.sqrtX (k : Kernel) : RowMatch.Statement (.sqrtX k) := by cases k <;> rfl

theorem RowMatch.sqrtP (k : Kernel) : RowMatch.Statement (.sqrtP k) := by cases k <;> rfl

theorem RowMatch.sqrtF (k : Kernel) : RowMatch.Statement (.sqrtF k) := by cases k <;> rfl

theorem RowMatch.sqrtFF (k : Kernel) : RowMatch.Statement (.sqrtFF k) := by cases k <;> rfl

theorem RowMatch.rsqrtP (k : Kernel) : RowMatch.Statement (.rsqrtP k) := by cases k <;> rfl

theorem RowMatch.rsqrtF (k : Kernel) : RowMatch.Statement (.rsqrtF k) := by cases k <;> rfl

theorem RowMatch.rsqrtFF (k : Kernel) : RowMatch.Statement (.rsqrtFF k) := by cases k <;> rfl

theorem RowMatch.exp2P (k : Kernel) : RowMatch.Statement (.exp2P k) := by cases k <;> rfl

theorem RowMatch.exp2F (k : Kernel) : RowMatch.Statement (.exp2F k) := by cases k <;> rfl

theorem RowMatch.exp2FF (k : Kernel) : RowMatch.Statement (.exp2FF k) := by cases k <;> rfl

theorem RowMatch.expP (k : Kernel) : RowMatch.Statement (.expP k) := by cases k <;> rfl

theorem RowMatch.expF (k : Kernel) : RowMatch.Statement (.expF k) := by cases k <;> rfl

theorem RowMatch.expFF (k : Kernel) : RowMatch.Statement (.expFF k) := by cases k <;> rfl

theorem RowMatch.log2P (k : Kernel) : RowMatch.Statement (.log2P k) := by cases k <;> rfl

theorem RowMatch.log2F (k : Kernel) : RowMatch.Statement (.log2F k) := by cases k <;> rfl

theorem RowMatch.log2FF (k : Kernel) : RowMatch.Statement (.log2FF k) := by cases k <;> rfl

theorem RowMatch.logP (k : Kernel) : RowMatch.Statement (.logP k) := by cases k <;> rfl

theorem RowMatch.logF (k : Kernel) : RowMatch.Statement (.logF k) := by cases k <;> rfl

theorem RowMatch.logFF (k : Kernel) : RowMatch.Statement (.logFF k) := by cases k <;> rfl

theorem RowMatch.powP (k : Kernel) : RowMatch.Statement (.powP k) := by cases k <;> rfl

theorem RowMatch.powF (k : Kernel) : RowMatch.Statement (.powF k) := by cases k <;> rfl

theorem RowMatch.powFF (k : Kernel) : RowMatch.Statement (.powFF k) := by cases k <;> rfl

theorem RowMatch.sinP (k : Kernel) : RowMatch.Statement (.sinP k) := by cases k <;> rfl

theorem RowMatch.sinF (k : Kernel) : RowMatch.Statement (.sinF k) := by cases k <;> rfl

theorem RowMatch.sinFF (k : Kernel) : RowMatch.Statement (.sinFF k) := by cases k <;> rfl

theorem RowMatch.cosP (k : Kernel) : RowMatch.Statement (.cosP k) := by cases k <;> rfl

theorem RowMatch.cosF (k : Kernel) : RowMatch.Statement (.cosF k) := by cases k <;> rfl

theorem RowMatch.cosFF (k : Kernel) : RowMatch.Statement (.cosFF k) := by cases k <;> rfl

theorem RowMatch.tanP (k : Kernel) : RowMatch.Statement (.tanP k) := by cases k <;> rfl

theorem RowMatch.tanF (k : Kernel) : RowMatch.Statement (.tanF k) := by cases k <;> rfl

theorem RowMatch.tanFF (k : Kernel) : RowMatch.Statement (.tanFF k) := by cases k <;> rfl

theorem RowMatch.atan2P (k : Kernel) : RowMatch.Statement (.atan2P k) := by cases k <;> rfl

theorem RowMatch.atan2F (k : Kernel) : RowMatch.Statement (.atan2F k) := by cases k <;> rfl

theorem RowMatch.atan2FF (k : Kernel) : RowMatch.Statement (.atan2FF k) := by cases k <;> rfl

theorem RowMatch.atanP (k : Kernel) : RowMatch.Statement (.atanP k) := by cases k <;> rfl

theorem RowMatch.atanF (k : Kernel) : RowMatch.Statement (.atanF k) := by cases k <;> rfl

theorem RowMatch.atanFF (k : Kernel) : RowMatch.Statement (.atanFF k) := by cases k <;> rfl

theorem RowMatch.asinP (k : Kernel) : RowMatch.Statement (.asinP k) := by cases k <;> rfl

theorem RowMatch.asinF (k : Kernel) : RowMatch.Statement (.asinF k) := by cases k <;> rfl

theorem RowMatch.asinFF (k : Kernel) : RowMatch.Statement (.asinFF k) := by cases k <;> rfl

theorem RowMatch.acosP (k : Kernel) : RowMatch.Statement (.acosP k) := by cases k <;> rfl

theorem RowMatch.acosF (k : Kernel) : RowMatch.Statement (.acosF k) := by cases k <;> rfl

theorem RowMatch.acosFF (k : Kernel) : RowMatch.Statement (.acosFF k) := by cases k <;> rfl

end Sys2Proof.Laws
end

