-- ==== Sys2Proof/Laws/Rom.lean ====
section
/-! SUPPORT. The coefficient ROM: reads, legal configurations, and the ROM the unit is configured with. -/

namespace Sys2Proof.Machine

/-- A read inside the table is the table's word. -/
theorem romRead_inside {rom : CoefRom} {fn : EvalFn} {slot : Slot} {row i : Nat} {r : List Word} {c : Word}
    (hr : (evaluator rom fn slot).coef[row]? = some r) (hc : r[i]? = some c) :
    romRead rom fn slot row i = c := by
  unfold romRead
  rw [hr]
  dsimp only
  rw [hc]

/-- The constraints on an evaluator, as propositions. -/
theorem evaluatorWf_iff (e : Evaluator) :
    evaluatorWf e = true ↔ 2 ≤ e.degree ∧ e.degree ≤ 8 ∧
      (e.rowCount = 1 ∨ e.rowCount = 8 ∨ e.rowCount = 16) ∧ e.coef.length = e.rowCount ∧
      ∀ r ∈ e.coef, r.length = e.degree + 1 := by
  simp [evaluatorWf, and_assoc, or_assoc]

/-- A legal ROM has a legal evaluator everywhere. -/
theorem evaluatorLegal_of_romWf {rom : CoefRom} (h : romWf rom = true) (fn : EvalFn) (slot : Slot) :
    evaluatorLegal rom fn slot = true := by
  unfold romWf at h
  rw [List.all_eq_true] at h
  have hf := h fn (by cases fn <;> decide)
  rw [List.all_eq_true] at hf
  exact hf slot (by cases slot <;> decide)

/-- No step writes the ROM. -/
theorem step_rom {s t : State} (h : step s = .next t) : t.rom = s.rom := by
  rcases step_cases h with ⟨-, rfl⟩ | ⟨_, _, -, rfl⟩ | ⟨_, _, -, ⟨-, rfl⟩ | ⟨-, _, rfl⟩ | ⟨-, _, -, rfl⟩⟩ <;>
    rfl

/-! ## The configured contents -/

theorem evaluator_configRom (fn : EvalFn) (slot : Slot) :
    evaluator configRom fn slot = configEvaluator fn slot := by
  cases fn <;> cases slot <;> rfl

theorem configDegree_bounds (fn : EvalFn) (slot : Slot) :
    2 ≤ configDegree fn slot ∧ configDegree fn slot ≤ 8 := by
  have h := (Config.openDegree fn slot).isLt
  unfold configDegree
  split
  · cases fn <;> cases slot <;> simp_all [fixedDegree] <;> omega
  · omega

theorem configRowCount_legal (fn : EvalFn) (slot : Slot) :
    (configRowCount fn slot = 1 ∨ configRowCount fn slot = 8 ∨ configRowCount fn slot = 16) ∧
      rowRuleMet (rowRule fn slot) (configRowCount fn slot) = true := by
  unfold configRowCount
  cases Config.openSixteenRows fn slot <;> cases Config.openHasTable fn slot <;>
    cases rowRule fn slot <;> decide

/-- The configured ROM is legal, whatever its free values are. -/
theorem configRom_legal : romWf configRom = true := by
  simp only [romWf, List.all_eq_true]
  intro fn _ slot _
  have hd := configDegree_bounds fn slot
  obtain ⟨hm, hr⟩ := configRowCount_legal fn slot
  simp only [evaluatorLegal, evaluator_configRom, Bool.and_eq_true]
  refine ⟨⟨?_, ?_⟩, hr⟩
  · rw [evaluatorWf_iff]
    exact ⟨hd.1, hd.2, hm, by simp [configEvaluator], by simp [configEvaluator]⟩
  · unfold configEvaluator configDegree
    cases fixedDegree fn slot <;> simp

end Sys2Proof.Machine
end

