-- ==== Sys2Proof/Tests/RomRef.lean ====
section
/-! SUPPORT. `ROM_REF`, the reference coefficient ROM of `99_rom_ref.md`: test data, not the contents of
any unit (`93_implementation_defined.md` U2). -/

namespace Sys2Proof.Tests

open Sys2Proof

/-- A row of signed decimal coefficients as stored words (`99_rom_ref.md` section 1). -/
def row (cs : List Int) : List Word := cs.map (BitVec.ofInt 32)

/-- `SIN` (`99_rom_ref.md` section 1). -/
def refSin : SlotTable where
  p :=
    { degree := 4, rowCount := 1, coef := [
      row [162856, -5018824, 85566398, -693598305, 1686629706]] }
  f :=
    { degree := 3, rowCount := 1, coef := [
      row [-4692881, 85362482, -693557462, 1686628426]] }
  ff :=
    { degree := 2, rowCount := 1, coef := [
      row [78312982, -690907523, 1686480494]] }

/-- `LOG` (`99_rom_ref.md` section 1). -/
def refLog : SlotTable where
  p :=
    { degree := 5, rowCount := 8, coef := [
      row [159183172, -261107595, 357453118, -536857623, 1073741683, 0],
      row [91211994, -220877241, 347326858, -535509347, 1073647756, 2705],
      row [55269973, -177021938, 325602557, -530048317, 1072951478, 38691],
      row [35056679, -139670448, 297813628, -519642963, 1070990658, 187435],
      row [23098014, -110071316, 268401835, -504976305, 1067320326, 556173],
      row [15716272, -87172949, 239922937, -487224966, 1061774976, 1250720],
      row [10992420, -69559290, 213610228, -467538942, 1054398856, 2358017],
      row [7874186, -55979125, 189925003, -446859523, 1045360520, 3940057]] }
  f :=
    { degree := 3, rowCount := 8, coef := [
      row [299016025, -532457263, 1073633301, 423],
      row [214091897, -501672178, 1069750529, 170504],
      row [158515594, -460615141, 1059533251, 1027071],
      row [120627948, -418379005, 1043765567, 2998435],
      row [93915154, -378560235, 1023928962, 6301117],
      row [74542658, -342404444, 1001398372, 10988975],
      row [60152618, -310142483, 977260417, 17015874],
      row [49240757, -281580687, 952319073, 24282010]] }
  ff :=
    { degree := 5, rowCount := 1, coef := [
      row [32006918, -139540478, 304752822, -525810394, 1072846754, 12291]] }

/-- `LOG2` (`99_rom_ref.md` section 1). -/
def refLog2 : SlotTable where
  p :=
    { degree := 5, rowCount := 8, coef := [
      row [229652772, -376698632, 515695841, -774521830, 1549081801, 0],
      row [131591091, -318658500, 501086736, -772576680, 1548946293, 3902],
      row [79737716, -255388673, 469745194, -764698078, 1547941777, 55820],
      row [50576098, -201501862, 429654244, -749686326, 1545112911, 270412],
      row [33323391, -158799342, 387221997, -728526811, 1539817742, 802388],
      row [22673788, -125763982, 346135631, -702917043, 1531817493, 1804408],
      row [15858709, -100352843, 308174416, -674516113, 1521176000, 3401899],
      row [11360049, -80760806, 274003860, -644682018, 1508136438, 5684300]] }
  f :=
    { degree := 3, rowCount := 8, coef := [
      row [431388937, -768173453, 1548925439, 610],
      row [308869318, -723759963, 1543323784, 245986],
      row [228689661, -664527180, 1528583367, 1481750],
      row [174029343, -603593316, 1505835408, 4325827],
      row [135490928, -546146973, 1477217236, 9090590],
      row [107542323, -493985193, 1444712465, 15853740],
      row [86781883, -447441022, 1409888757, 24548717],
      row [71039397, -406235060, 1373906004, 35031535]] }
  ff :=
    { degree := 5, rowCount := 1, coef := [
      row [46176222, -201314356, 439665385, -758584049, 1547790691, 17732]] }

/-- `EXP2` (`99_rom_ref.md` section 1). -/
def refExp2 : SlotTable where
  p :=
    { degree := 5, rowCount := 1, coef := [
      row [2033403, 9609550, 59979580, 257850314, 744268966, 1073741715]] }
  f :=
    { degree := 4, rowCount := 1, coef := [
      row [14678383, 55560768, 259420703, 744074009, 1073745574]] }
  ff :=
    { degree := 3, rowCount := 1, coef := [
      row [84790447, 241262439, 747673030, 1073634759]] }

/-- `ATAN` (`99_rom_ref.md` section 1). -/
def refAtan : SlotTable where
  p :=
    { degree := 5, rowCount := 8, coef := [
      row [201591406, 2437541, -358089537, 5412, 1073741765, 0],
      row [118058342, 57650031, -373382021, 2202108, 1073579818, 4858],
      row [9921988, 192301793, -441412635, 19625827, 1071319701, 123502],
      row [-64914813, 330142188, -543611109, 57755496, 1064161145, 664473],
      row [-90055621, 390736319, -602182879, 86142937, 1057261893, 1337227],
      row [-80796448, 360654066, -563069231, 60702167, 1065539587, 259403],
      row [-58291145, 276024888, -435573512, -35484503, 1101878271, -5240279],
      row [-36062892, 178980625, -265902672, -183984853, 1166940566, -16655918]] }
  f :=
    { degree := 3, rowCount := 8, coef := [
      row [-348817891, -928059, 1073767172, -101],
      row [-288178411, -25124528, 1077090410, -156030],
      row [-191307249, -98331327, 1095717298, -1750999],
      row [-90366939, -211604636, 1138283611, -7107300],
      row [-8319603, -333955578, 1199258765, -17262981],
      row [46524358, -436017359, 1262673054, -30418584],
      row [76467037, -502773118, 1312337396, -42748727],
      row [88174797, -533094882, 1338532572, -50297645]] }
  ff :=
    { degree := 4, rowCount := 1, coef := [
      row [153115155, -373139333, -12798694, 1076331524, -55540]] }

/-- `RCP` (`99_rom_ref.md` section 1). -/
def refRcp : SlotTable where
  p :=
    { degree := 4, rowCount := 8, coef := [
      row [796408808, -1045286561, 1072507565, -1073722789, 1073741777],
      row [456285988, -884054103, 1042239186, -1071063405, 1073650361],
      row [276461940, -708433721, 977066172, -1060170118, 1072958687],
      row [175342642, -558904673, 893665284, -1039373907, 1071002691],
      row [115523104, -440431835, 805390079, -1010044504, 1067336396],
      row [78600629, -348790291, 719917283, -974539377, 1061793994],
      row [54973778, -278304751, 640949157, -935161542, 1054419781],
      row [39378252, -223963808, 569869449, -893795469, 1045382489]] }
  f :=
    { degree := 6, rowCount := 1, coef := [
      row [76994591, -346475658, 717012126, -969650626, 1058074102, -1072811347, 1073732425]] }
  ff :=
    { degree := 4, rowCount := 1, coef := [
      row [163471845, -572151457, 929746117, -1057458496, 1073422543]] }

/-- `RSQRT` (`99_rom_ref.md` section 1). -/
def refRsqrt : SlotTable where
  p :=
    { degree := 3, rowCount := 16, coef := [
      row [-301501990, 401354534, -536854831, 1073741793],
      row [-245366874, 391038117, -536195620, 1073727191],
      row [-201984790, 374922323, -534178966, 1073642192],
      row [-167986198, 355911332, -530618993, 1073418944],
      row [-141005098, 335760865, -525589512, 1072999400],
      row [-119349396, 315523893, -519275253, 1072341584],
      row [-101788787, 295818714, -511896161, 1071419418],
      row [-87415242, 276992978, -503670171, 1070220268],
      row [-75549397, 259225494, -494796268, 1068741958],
      row [-65676607, 242590150, -485448116, 1066990005],
      row [-57402531, 227096394, -475773058, 1064975305],
      row [-50421815, 212715027, -465893703, 1062712300],
      row [-44495706, 199394673, -455910585, 1060217584],
      row [-39435834, 187072277, -445905136, 1057508865],
      row [-35092339, 175679763, -435942579, 1054604219],
      row [-31345057, 165148183, -426074562, 1051521560]] }
  f :=
    { degree := 5, rowCount := 1, coef := [
      row [-32939377, 137000811, -272391439, 389671702, -535826603, 1073727501]] }
  ff :=
    { degree := 3, rowCount := 1, coef := [
      row [-88921520, 292373869, -517673301, 1073157906]] }

/-- `SQRT` (`99_rom_ref.md` section 1). -/
def refSqrt : SlotTable where
  p :=
    { degree := 3, rowCount := 8, coef := [
      row [57758469, -133513331, 536853555, 1073741892],
      row [43724273, -128404074, 536206494, 1073770336],
      row [34037899, -121234677, 534418967, 1073920470],
      row [27109383, -113502116, 531528920, 1074282210],
      row [22005638, -105888377, 527732981, 1074914708],
      row [18152280, -98692513, 523246256, 1075848786],
      row [15181366, -92028851, 518258359, 1077094750],
      row [12849120, -85922012, 512923704, 1078649439]] }
  f :=
    { degree := 4, rowCount := 1, coef := [
      row [-10943635, 47824288, -128329164, 536185356, 1073755346]] }
  ff :=
    { degree := 3, rowCount := 1, coef := [
      row [25609309, -114147531, 533254225, 1073784248]] }

/-- `ROM_REF` (`99_rom_ref.md`). -/
def romRef : CoefRom where
  sin := refSin
  log := refLog
  log2 := refLog2
  exp2 := refExp2
  atan := refAtan
  rcp := refRcp
  rsqrt := refRsqrt
  sqrt := refSqrt

end Sys2Proof.Tests
end

