-- ==== Sys2Proof/Tests/Slice0.lean ====
section
/-! SUPPORT. The implementer's own tests: the ill-formed terms, words written out from the layout, one step of
each instruction with the result the spec gives, and a witness for every statement that has hypotheses. The
results are the spec's, of the file and rule or line named before each. -/

namespace Sys2Proof.Tests

open Sys2Proof
open Sys2Proof.Machine
open Sys2Proof.Claims

/-! ## Well-formedness -/

/-- `30_encoding.md` R62, R69: an s2.30 constant with `K = 1`. -/
theorem test_wf_refuses_s230_with_k64 : Instr.wf (.const .k64 (.s230 .sqrt2)) = false := rfl

theorem test_wf_accepts_s230_with_k32 : Instr.wf (.const .k32 (.s230 .sqrt2)) = true := rfl

theorem test_decode_refuses_s230_with_k64 : decode 0x0001012E#32 = .error .selField := rfl

/-! ## Words, written out

One word per family from its fields, `ZERO ++ SEL ++ MODE ++ TIER ++ K ++ OP` (`30_encoding.md` R61), then one
word of every row. -/

theorem test_fields_normalization : decode (0#15 ++ 0#5 ++ 1#1 ++ 0#2 ++ 1#1 ++ 0x02#8) = .ok (.shrA .k64) := rfl

theorem test_fields_evaluator : decode (0#15 ++ 4#5 ++ 0#1 ++ 3#2 ++ 0#1 ++ 0x13#8) = .ok (.lutrdFF .atan) := rfl

theorem test_fields_conversion : decode (0#15 ++ 0#5 ++ 0#1 ++ 0#2 ++ 1#1 ++ 0x27#8) = .ok (.tof64 .k64) := rfl

theorem test_fields_constants : decode (0#15 ++ 12#5 ++ 0#1 ++ 0#2 ++ 1#1 ++ 0x2E#8) = .ok (.const .k64 (.kernel .maxVal)) := rfl

theorem test_fields_arithmetic : decode (0#15 ++ 0#5 ++ 0#1 ++ 0#2 ++ 0#1 ++ 0x33#8) = .ok (.mul .k32) := rfl

theorem test_fields_comparison : decode (0#15 ++ 0#5 ++ 0#1 ++ 0#2 ++ 1#1 ++ 0x45#8) = .ok (.cmpge .k64) := rfl

theorem test_fields_rounding : decode (0#15 ++ 0#5 ++ 0#1 ++ 0#2 ++ 0#1 ++ 0x51#8) = .ok (.ceil .k32) := rfl

theorem test_fields_division : decode (0#15 ++ 0#5 ++ 0#1 ++ 2#2 ++ 1#1 ++ 0x60#8) = .ok (.divF .k64) := rfl

theorem test_fields_roots : decode (0#15 ++ 0#5 ++ 0#1 ++ 3#2 ++ 0#1 ++ 0x63#8) = .ok (.rsqrtFF .k32) := rfl

theorem test_fields_exponential : decode (0#15 ++ 0#5 ++ 0#1 ++ 1#2 ++ 0#1 ++ 0x74#8) = .ok (.powP .k32) := rfl

theorem test_fields_trigonometry : decode (0#15 ++ 0#5 ++ 0#1 ++ 2#2 ++ 1#1 ++ 0x87#8) = .ok (.acosF .k64) := rfl

theorem test_word_clz : decode 0x00000001#32 = .ok (.clz .k32) := rfl

theorem test_word_shrL : decode 0x00000102#32 = .ok (.shrL .k64) := rfl

theorem test_word_shrA : decode 0x00000802#32 = .ok (.shrA .k32) := rfl

theorem test_word_norm : decode 0x00000103#32 = .ok (.norm .k64) := rfl

theorem test_word_qmul30 : decode 0x00000010#32 = .ok .qmul30 := rfl

theorem test_word_fma30 : decode 0x00000011#32 = .ok .fma30 := rfl

theorem test_word_polyP : decode 0x00006212#32 = .ok (.polyP .rsqrt) := rfl

theorem test_word_polyF : decode 0x00006412#32 = .ok (.polyF .rsqrt) := rfl

theorem test_word_polyFF : decode 0x00006612#32 = .ok (.polyFF .rsqrt) := rfl

theorem test_word_lutrdP : decode 0x00006213#32 = .ok (.lutrdP .rsqrt) := rfl

theorem test_word_lutrdF : decode 0x00006413#32 = .ok (.lutrdF .rsqrt) := rfl

theorem test_word_lutrdFF : decode 0x00006613#32 = .ok (.lutrdFF .rsqrt) := rfl

theorem test_word_fromint : decode 0x00000020#32 = .ok (.fromint .k32) := rfl

theorem test_word_fromf32 : decode 0x00000121#32 = .ok (.fromf32 .k64) := rfl

theorem test_word_fromf64 : decode 0x00000022#32 = .ok (.fromf64 .k32) := rfl

theorem test_word_tointf : decode 0x00000123#32 = .ok (.tointf .k64) := rfl

theorem test_word_tointc : decode 0x00000024#32 = .ok (.tointc .k32) := rfl

theorem test_word_tointr : decode 0x00000125#32 = .ok (.tointr .k64) := rfl

theorem test_word_tof32 : decode 0x00000026#32 = .ok (.tof32 .k32) := rfl

theorem test_word_tof64 : decode 0x00000127#32 = .ok (.tof64 .k64) := rfl

theorem test_word_ratio : decode 0x00000028#32 = .ok (.ratio .k32) := rfl

theorem test_word_ratio10 : decode 0x00000129#32 = .ok (.ratio10 .k64) := rfl

theorem test_word_ratio100 : decode 0x0000002A#32 = .ok (.ratio100 .k32) := rfl

theorem test_word_ratio1000 : decode 0x0000012B#32 = .ok (.ratio1000 .k64) := rfl

theorem test_word_widen : decode 0x0000002C#32 = .ok .widen := rfl

theorem test_word_narrow : decode 0x0000012D#32 = .ok .narrow := rfl

theorem test_word_const : decode 0x0000812E#32 = .ok (.const .k64 (.kernel .pi2)) := rfl

theorem test_word_add : decode 0x00000130#32 = .ok (.add .k64) := rfl

theorem test_word_sub : decode 0x00000031#32 = .ok (.sub .k32) := rfl

theorem test_word_neg : decode 0x00000132#32 = .ok (.neg .k64) := rfl

theorem test_word_mul : decode 0x00000033#32 = .ok (.mul .k32) := rfl

theorem test_word_mod : decode 0x00000134#32 = .ok (.mod .k64) := rfl

theorem test_word_cmpeq : decode 0x00000040#32 = .ok (.cmpeq .k32) := rfl

theorem test_word_cmpne : decode 0x00000141#32 = .ok (.cmpne .k64) := rfl

theorem test_word_cmplt : decode 0x00000042#32 = .ok (.cmplt .k32) := rfl

theorem test_word_cmple : decode 0x00000143#32 = .ok (.cmple .k64) := rfl

theorem test_word_cmpgt : decode 0x00000044#32 = .ok (.cmpgt .k32) := rfl

theorem test_word_cmpge : decode 0x00000145#32 = .ok (.cmpge .k64) := rfl

theorem test_word_min : decode 0x00000046#32 = .ok (.min .k32) := rfl

theorem test_word_max : decode 0x00000147#32 = .ok (.max .k64) := rfl

theorem test_word_clamp : decode 0x00000048#32 = .ok (.clamp .k32) := rfl

theorem test_word_lerp : decode 0x00000149#32 = .ok (.lerp .k64) := rfl

theorem test_word_floor : decode 0x00000050#32 = .ok (.floor .k32) := rfl

theorem test_word_ceil : decode 0x00000151#32 = .ok (.ceil .k64) := rfl

theorem test_word_round : decode 0x00000052#32 = .ok (.round .k32) := rfl

theorem test_word_fract : decode 0x00000153#32 = .ok (.fract .k64) := rfl

theorem test_word_divX : decode 0x00000060#32 = .ok (.divX .k32) := rfl

theorem test_word_divF : decode 0x00000560#32 = .ok (.divF .k64) := rfl

theorem test_word_divFF : decode 0x00000660#32 = .ok (.divFF .k32) := rfl

theorem test_word_rcpP : decode 0x00000361#32 = .ok (.rcpP .k64) := rfl

theorem test_word_rcpF : decode 0x00000461#32 = .ok (.rcpF .k32) := rfl

theorem test_word_rcpFF : decode 0x00000761#32 = .ok (.rcpFF .k64) := rfl

theorem test_word_sqrtX : decode 0x00000062#32 = .ok (.sqrtX .k32) := rfl

theorem test_word_sqrtP : decode 0x00000362#32 = .ok (.sqrtP .k64) := rfl

theorem test_word_sqrtF : decode 0x00000462#32 = .ok (.sqrtF .k32) := rfl

theorem test_word_sqrtFF : decode 0x00000762#32 = .ok (.sqrtFF .k64) := rfl

theorem test_word_rsqrtP : decode 0x00000263#32 = .ok (.rsqrtP .k32) := rfl

theorem test_word_rsqrtF : decode 0x00000563#32 = .ok (.rsqrtF .k64) := rfl

theorem test_word_rsqrtFF : decode 0x00000663#32 = .ok (.rsqrtFF .k32) := rfl

theorem test_word_exp2P : decode 0x00000370#32 = .ok (.exp2P .k64) := rfl

theorem test_word_exp2F : decode 0x00000470#32 = .ok (.exp2F .k32) := rfl

theorem test_word_exp2FF : decode 0x00000770#32 = .ok (.exp2FF .k64) := rfl

theorem test_word_expP : decode 0x00000271#32 = .ok (.expP .k32) := rfl

theorem test_word_expF : decode 0x00000571#32 = .ok (.expF .k64) := rfl

theorem test_word_expFF : decode 0x00000671#32 = .ok (.expFF .k32) := rfl

theorem test_word_log2P : decode 0x00000372#32 = .ok (.log2P .k64) := rfl

theorem test_word_log2F : decode 0x00000472#32 = .ok (.log2F .k32) := rfl

theorem test_word_log2FF : decode 0x00000772#32 = .ok (.log2FF .k64) := rfl

theorem test_word_logP : decode 0x00000273#32 = .ok (.logP .k32) := rfl

theorem test_word_logF : decode 0x00000573#32 = .ok (.logF .k64) := rfl

theorem test_word_logFF : decode 0x00000673#32 = .ok (.logFF .k32) := rfl

theorem test_word_powP : decode 0x00000374#32 = .ok (.powP .k64) := rfl

theorem test_word_powF : decode 0x00000474#32 = .ok (.powF .k32) := rfl

theorem test_word_powFF : decode 0x00000774#32 = .ok (.powFF .k64) := rfl

theorem test_word_sinP : decode 0x00000280#32 = .ok (.sinP .k32) := rfl

theorem test_word_sinF : decode 0x00000580#32 = .ok (.sinF .k64) := rfl

theorem test_word_sinFF : decode 0x00000680#32 = .ok (.sinFF .k32) := rfl

theorem test_word_cosP : decode 0x00000381#32 = .ok (.cosP .k64) := rfl

theorem test_word_cosF : decode 0x00000481#32 = .ok (.cosF .k32) := rfl

theorem test_word_cosFF : decode 0x00000781#32 = .ok (.cosFF .k64) := rfl

theorem test_word_tanP : decode 0x00000282#32 = .ok (.tanP .k32) := rfl

theorem test_word_tanF : decode 0x00000582#32 = .ok (.tanF .k64) := rfl

theorem test_word_tanFF : decode 0x00000682#32 = .ok (.tanFF .k32) := rfl

theorem test_word_atan2P : decode 0x00000384#32 = .ok (.atan2P .k64) := rfl

theorem test_word_atan2F : decode 0x00000484#32 = .ok (.atan2F .k32) := rfl

theorem test_word_atan2FF : decode 0x00000784#32 = .ok (.atan2FF .k64) := rfl

theorem test_word_atanP : decode 0x00000285#32 = .ok (.atanP .k32) := rfl

theorem test_word_atanF : decode 0x00000585#32 = .ok (.atanF .k64) := rfl

theorem test_word_atanFF : decode 0x00000685#32 = .ok (.atanFF .k32) := rfl

theorem test_word_asinP : decode 0x00000386#32 = .ok (.asinP .k64) := rfl

theorem test_word_asinF : decode 0x00000486#32 = .ok (.asinF .k32) := rfl

theorem test_word_asinFF : decode 0x00000786#32 = .ok (.asinFF .k64) := rfl

theorem test_word_acosP : decode 0x00000287#32 = .ok (.acosP .k32) := rfl

theorem test_word_acosF : decode 0x00000587#32 = .ok (.acosF .k64) := rfl

theorem test_word_acosFF : decode 0x00000687#32 = .ok (.acosFF .k32) := rfl

/-- `30_encoding.md` R69: each way of being illegal. -/
theorem test_illegal_words :
    decode 0x00000000#32 = .error .unassignedOp ∧ decode 0x00000083#32 = .error .unassignedOp ∧
      decode 0x00020030#32 = .error .zeroField ∧ decode 0x00000110#32 = .error .kField ∧
      decode 0x0000002D#32 = .error .kField ∧ decode 0x00000260#32 = .error .tierField ∧
      decode 0x00000061#32 = .error .tierField ∧ decode 0x00000801#32 = .error .modeField ∧
      decode 0x00009212#32 = .error .selField ∧ decode 0x0000F02E#32 = .error .selField :=
  ⟨rfl, rfl, rfl, rfl, rfl, rfl, rfl, rfl, rfl, rfl⟩

theorem test_encode_add : encode (.add .k64) = 0x00000130#32 := rfl

/-! ## One step of each instruction -/

/-- A running unit with the reference ROM. -/
def unit (a b c : Port) : State :=
  { flt := .none, rom := romRef, port := { word := 0, opa := a, opb := b, opc := c }, host := [],
    responses := [] }

/-- The unit with one command pending. -/
def asked (w : Word) (a b c : Port) : State :=
  { unit 0 0 0 with host := [.command { word := w, opa := a, opb := b, opc := c }] }

/-- The responses after one step. -/
def answers (s : State) : List Response :=
  match step s with
  | .next t => t.responses
  | .fault _ => []
  | .refused _ => []

/-- `40_normalize.md` R105. -/
theorem test_step_clz :
    answers (asked 0x00000001 0xFFFFFFFF00000000 0 0) = [{ flt := .none, res := 0x20 }] := by
  decide

/-- `96_test_vectors_derived_a.md` line 52, R106. -/
theorem test_step_shrL :
    answers (asked 0x00000002 0x40000000 0xFFFFFFFFFFFFFFFF 0) = [{ flt := .none, res := 0xFFFFFFFF80000000 }] := by
  decide

/-- `96_test_vectors_derived_a.md` line 53, R106. -/
theorem test_step_shrA :
    answers (asked 0x00000802 0xFFFF8000 0xF 0) = [{ flt := .none, res := 0xFFFFFFFFFFFFFFFF }] := by
  decide

/-- `40_normalize.md` R107. -/
theorem test_step_norm :
    answers (asked 0x00000003 1 0 0) = [{ flt := .none, res := 0xFFFFFFF040000000 }] := by
  decide

/-- `41_poly_lut.md` R125. -/
theorem test_step_qmul30 :
    answers (asked 0x00000010 0xC0000000 0x20000000 0) = [{ flt := .none, res := 0xFFFFFFFFE0000000 }] := by
  decide

/-- `41_poly_lut.md` R126. -/
theorem test_step_fma30 :
    answers (asked 0x00000011 0x40000000 0x7FFFFFFF 1) = [{ flt := .none, res := 0xFFFFFFFF80000000 }] := by
  decide

/-- `41_poly_lut.md` R129. -/
theorem test_step_polyP :
    answers (asked 0x00007212 0x20000000 0 0) = [{ flt := .none, res := 0x4E623861 }] := by
  decide

/-- `99_rom_ref.md` line 253, R129. -/
theorem test_step_polyF :
    answers (asked 0x00004412 0 0 0) = [{ flt := .none, res := 0xFFFFFFFFFFFFFF9B }] := by
  decide

/-- `99_rom_ref.md` line 253, R129. -/
theorem test_step_polyFF :
    answers (asked 0x00004612 0 0 0) = [{ flt := .none, res := 0xFFFFFFFFFFFF270C }] := by
  decide

/-- `95_test_vectors.md` line 248, R130. -/
theorem test_step_lutrdP :
    answers (asked 0x00007213 0x20000000 1 0) = [{ flt := .none, res := 0xFFFFFFFFF9B04587 }] := by
  decide

/-- `96_test_vectors_derived_a.md` line 125, R130. -/
theorem test_step_lutrdF :
    answers (asked 0x00005413 0x3FFFFFFF 6 0) = [{ flt := .none, res := 0x3FFFDB49 }] := by
  decide

/-- `96_test_vectors_derived_a.md` line 126, R130. -/
theorem test_step_lutrdFF :
    answers (asked 0x00000613 0 2 0) = [{ flt := .none, res := 0x6485A66E }] := by
  decide

/-- `96_test_vectors_derived_a.md` line 141, R142. -/
theorem test_step_fromint :
    answers (asked 0x00000120 0xFFFFFFFFFFFF8000 0 0) = [{ flt := .none, res := 0xFFFF800000000000 }] := by
  decide

/-- `96_test_vectors_derived_a.md` line 158, R143. -/
theorem test_step_fromf32 :
    answers (asked 0x00000021 0xB7C00000 0 0) = [{ flt := .none, res := 0xFFFFFFFFFFFFFFFF }] := by
  decide

/-- `96_test_vectors_derived_a.md` line 179, R144. -/
theorem test_step_fromf64 :
    answers (asked 0x00000022 0xC0E0000000000000 0 0) = [{ flt := .none, res := 0xFFFFFFFF80000000 }] := by
  decide

/-- `96_test_vectors_derived_a.md` line 206, R145. -/
theorem test_step_tointf :
    answers (asked 0x00000123 0x8000000000000000 0 0) = [{ flt := .none, res := 0xFFFFFFFF80000000 }] := by
  decide

/-- `96_test_vectors_derived_a.md` line 198, R146. -/
theorem test_step_tointc :
    answers (asked 0x00000024 0x80000000 0 0) = [{ flt := .none, res := 0xFFFFFFFFFFFF8000 }] := by
  decide

/-- `96_test_vectors_derived_a.md` line 191, R147. -/
theorem test_step_tointr :
    answers (asked 0x00000025 0xFFFD8000 0 0) = [{ flt := .none, res := 0xFFFFFFFFFFFFFFFE }] := by
  decide

/-- `96_test_vectors_derived_a.md` line 220, R148. -/
theorem test_step_tof32 :
    answers (asked 0x00000126 0x8000000000000000 0 0) = [{ flt := .none, res := 0xCF000000 }] := by
  decide

/-- `94_test_vectors_properties.md` line 14, R149. -/
theorem test_step_tof64 :
    answers (asked 0x00000027 0xFFFFFFFFFFFFE667 0 0) = [{ flt := .none, res := 0xBFB9990000000000 }] := by
  decide

/-- `96_test_vectors_derived_a.md` line 239, R150. -/
theorem test_step_ratio :
    answers (asked 0x00000028 0xFFFFFFFFFFFFFFFF 3 0) = [{ flt := .none, res := 0xFFFFFFFFFFFFAAAB }] := by
  decide

/-- `96_test_vectors_derived_a.md` line 261, R151. -/
theorem test_step_ratio10 :
    answers (asked 0x00000129 0xFFFFFFFFFFFFFFF9 0 0) = [{ flt := .none, res := 0xFFFFFFFF4CCCCCCD }] := by
  decide

/-- `96_test_vectors_derived_a.md` line 254, R152. -/
theorem test_step_ratio100 :
    answers (asked 0x0000002A 0xFFFFFFFFFFFFFFF9 0 0) = [{ flt := .none, res := 0xFFFFFFFFFFFFEE15 }] := by
  decide

/-- `96_test_vectors_derived_a.md` line 254, R153. -/
theorem test_step_ratio1000 :
    answers (asked 0x0000002B 0xFFFFFFFFFFFFFFF9 0 0) = [{ flt := .none, res := 0xFFFFFFFFFFFFFE36 }] := by
  decide

/-- `96_test_vectors_derived_a.md` line 268, R154. -/
theorem test_step_widen :
    answers (asked 0x0000002C 0x80000000 0 0) = [{ flt := .none, res := 0xFFFF800000000000 }] := by
  decide

/-- `95_test_vectors.md` line 323, R155. -/
theorem test_step_narrow :
    answers (asked 0x0000012D 0x180000000 0 0) = [{ flt := .notImplemented, res := 0 }] := by
  decide

/-- `10_state.md` R27. -/
theorem test_step_const :
    answers (asked 0x0000602E 0 0 0) = [{ flt := .none, res := 0xFFFFFFFFFFFF0000 }] := by
  decide

/-- `96_test_vectors_derived_a.md` line 308, R157. -/
theorem test_step_add :
    answers (asked 0x00000130 0x7FFFFFFFFFFFFFFF 1 0) = [{ flt := .none, res := 0x8000000000000000 }] := by
  decide

/-- `96_test_vectors_derived_a.md` line 312, R158. -/
theorem test_step_sub :
    answers (asked 0x00000031 0 0x80000000 0) = [{ flt := .none, res := 0xFFFFFFFF80000000 }] := by
  decide

/-- `96_test_vectors_derived_a.md` line 317, R159. -/
theorem test_step_neg :
    answers (asked 0x00000032 0x80000000 0 0) = [{ flt := .none, res := 0xFFFFFFFF80000000 }] := by
  decide

/-- `42_convert_arith.md` R160. -/
theorem test_step_mul :
    answers (asked 0x00000033 0xFFFFFFFD 0x8000 0) = [{ flt := .none, res := 0xFFFFFFFFFFFFFFFE }] := by
  decide

/-- `96_test_vectors_derived_a.md` line 339, R161. -/
theorem test_step_mod :
    answers (asked 0x00000034 0xFFF88000 0xFFFE0000 0) = [{ flt := .none, res := 0xFFFFFFFFFFFE8000 }] := by
  decide

/-- `98_test_vectors_derived_c.md` line 207, R260. -/
theorem test_step_cmpeq :
    answers (asked 0x00000040 0x7FFFFFFF 0x80000000 0) = [{ flt := .none, res := 0 }] := by
  decide

/-- `98_test_vectors_derived_c.md` line 212, R261. -/
theorem test_step_cmpne :
    answers (asked 0x00000141 0xFFFFFFFF00000000 0x100000000 0) = [{ flt := .none, res := 1 }] := by
  decide

/-- `46_compare_round.md` R262. -/
theorem test_step_cmplt :
    answers (asked 0x00000042 0x80000000 0x7FFFFFFF 0) = [{ flt := .none, res := 1 }] := by
  decide

/-- `98_test_vectors_derived_c.md` line 207, R263. -/
theorem test_step_cmple :
    answers (asked 0x00000043 0x7FFFFFFF 0x80000000 0) = [{ flt := .none, res := 0 }] := by
  decide

/-- `98_test_vectors_derived_c.md` line 215, R264. -/
theorem test_step_cmpgt :
    answers (asked 0x00000144 0x8000000000000000 0x7FFFFFFFFFFFFFFF 0) = [{ flt := .none, res := 0 }] := by
  decide

/-- `46_compare_round.md` R265. -/
theorem test_step_cmpge :
    answers (asked 0x00000045 0x80000000 0x80000001 0) = [{ flt := .none, res := 0 }] := by
  decide

/-- `98_test_vectors_derived_c.md` line 220, R266. -/
theorem test_step_min :
    answers (asked 0x00000046 0x80000000 0x7FFFFFFF 0) = [{ flt := .none, res := 0xFFFFFFFF80000000 }] := by
  decide

/-- `98_test_vectors_derived_c.md` line 228, R267. -/
theorem test_step_max :
    answers (asked 0x00000147 0x100000000 0xFFFFFFFF 0) = [{ flt := .none, res := 0x100000000 }] := by
  decide

/-- `46_compare_round.md` R268. -/
theorem test_step_clamp :
    answers (asked 0x00000048 2 3 1) = [{ flt := .none, res := 1 }] := by
  decide

/-- `98_test_vectors_derived_c.md` line 247, R269. -/
theorem test_step_lerp :
    answers (asked 0x00000049 0xFFFF0000 0x10000 0x4CCD) = [{ flt := .none, res := 0xFFFFFFFFFFFF999A }] := by
  decide

/-- `98_test_vectors_derived_c.md` line 272, R270. -/
theorem test_step_floor :
    answers (asked 0x00000150 0xFFFFFFFFFFFFFFFF 0 0) = [{ flt := .none, res := 0xFFFFFFFF00000000 }] := by
  decide

/-- `98_test_vectors_derived_c.md` line 262, R271. -/
theorem test_step_ceil :
    answers (asked 0x00000051 0x80000000 0 0) = [{ flt := .none, res := 0xFFFFFFFF80000000 }] := by
  decide

/-- `98_test_vectors_derived_c.md` line 257, R272. -/
theorem test_step_round :
    answers (asked 0x00000052 0xFFFD8000 0 0) = [{ flt := .none, res := 0xFFFFFFFFFFFE0000 }] := by
  decide

/-- `98_test_vectors_derived_c.md` line 269, R273. -/
theorem test_step_fract :
    answers (asked 0x00000153 0x280000000 0 0) = [{ flt := .none, res := 0x80000000 }] := by
  decide

/-- `43_div_root_rcp.md` R183. -/
theorem test_step_divX :
    answers (asked 0x00000160 0x100000000 1 0) = [{ flt := .none, res := 0x7FFFFFFFFFFFFFFF }] := by
  decide

set_option maxRecDepth 8000 in
/-- `97_test_vectors_derived_b.md` line 39, R184. -/
theorem test_step_divF :
    answers (asked 0x00000460 0x80000000 0x10000 0) = [{ flt := .none, res := 0xFFFFFFFF8000496E }] := by
  decide

/-- `97_test_vectors_derived_b.md` line 49, R185. -/
theorem test_step_divFF :
    answers (asked 0x00000760 0xFFFFFF9C00000000 0x700000000 0) = [{ flt := .none, res := 0xFFFFFFF1B6503C58 }] := by
  decide

/-- `97_test_vectors_derived_b.md` line 70, R187. -/
theorem test_step_rcpP :
    answers (asked 0x00000261 0xFFFD0000 0 0) = [{ flt := .none, res := 0xFFFFFFFFFFFFAAAA }] := by
  decide

set_option maxRecDepth 8000 in
/-- `97_test_vectors_derived_b.md` line 70, R188. -/
theorem test_step_rcpF :
    answers (asked 0x00000461 0xFFFD0000 0 0) = [{ flt := .none, res := 0xFFFFFFFFFFFFAAAA }] := by
  decide

/-- `97_test_vectors_derived_b.md` line 85, R189. -/
theorem test_step_rcpFF :
    answers (asked 0x00000761 0xFFFFFFFD00000000 0 0) = [{ flt := .none, res := 0xFFFFFFFFAAAAAAAC }] := by
  decide

/-- `43_div_root_rcp.md` R192. -/
theorem test_step_sqrtX :
    answers (asked 0x00000062 0x7FFFFFFF 0 0) = [{ flt := .none, res := 0xB504F3 }] := by
  decide

/-- `97_test_vectors_derived_b.md` line 102, R193. -/
theorem test_step_sqrtP :
    answers (asked 0x00000262 1 0 0) = [{ flt := .none, res := 0x100 }] := by
  decide

/-- `97_test_vectors_derived_b.md` line 114, R194. -/
theorem test_step_sqrtF :
    answers (asked 0x00000562 0x7FFFFFFFFFFFFFFF 0 0) = [{ flt := .none, res := 0xB504B43A0000 }] := by
  decide

/-- `97_test_vectors_derived_b.md` line 100, R195. -/
theorem test_step_sqrtFF :
    answers (asked 0x00000662 0x640000 0 0) = [{ flt := .none, res := 0xA0001 }] := by
  decide

/-- `97_test_vectors_derived_b.md` line 129, R197. -/
theorem test_step_rsqrtP :
    answers (asked 0x00000263 1 0 0) = [{ flt := .none, res := 0xFFFFFF }] := by
  decide

/-- `97_test_vectors_derived_b.md` line 140, R198. -/
theorem test_step_rsqrtF :
    answers (asked 0x00000563 0x7FFFFFFFFFFFFFFF 0 0) = [{ flt := .none, res := 0x16A08 }] := by
  decide

/-- `97_test_vectors_derived_b.md` line 126, R199. -/
theorem test_step_rsqrtFF :
    answers (asked 0x00000663 0x4000 0 0) = [{ flt := .none, res := 0x1FFB8 }] := by
  decide

/-- `97_test_vectors_derived_b.md` line 151, R211. -/
theorem test_step_exp2P :
    answers (asked 0x00000270 0xFFFF0000 0 0) = [{ flt := .none, res := 0x7FFF }] := by
  decide

/-- `97_test_vectors_derived_b.md` line 172, R212. -/
theorem test_step_exp2F :
    answers (asked 0x00000570 0x1F80000000 0 0) = [{ flt := .none, res := 0xB504F33200000000 }] := by
  decide

/-- `97_test_vectors_derived_b.md` line 153, R213. -/
theorem test_step_exp2FF :
    answers (asked 0x00000670 0xFFFF8000 0 0) = [{ flt := .none, res := 0xB501 }] := by
  decide

/-- `97_test_vectors_derived_b.md` line 188, R215. -/
theorem test_step_expP :
    answers (asked 0x00000271 0x80000000 0 0) = [{ flt := .none, res := 0x7FFFFFFF }] := by
  decide

/-- `97_test_vectors_derived_b.md` line 195, R216. -/
theorem test_step_expF :
    answers (asked 0x00000571 0xFFFFFFFF00000000 0 0) = [{ flt := .none, res := 0x5E2D505C }] := by
  decide

/-- `97_test_vectors_derived_b.md` line 183, R217. -/
theorem test_step_expFF :
    answers (asked 0x00000671 0xFFFF0000 0 0) = [{ flt := .none, res := 0x5E2B }] := by
  decide

set_option maxRecDepth 8000 in
/-- `97_test_vectors_derived_b.md` line 203, R219. -/
theorem test_step_log2P :
    answers (asked 0x00000272 0x8000 0 0) = [{ flt := .none, res := 0xFFFFFFFFFFFF0000 }] := by
  decide

/-- `97_test_vectors_derived_b.md` line 216, R220. -/
theorem test_step_log2F :
    answers (asked 0x00000572 1 0 0) = [{ flt := .none, res := 0xFFFFFFE000000988 }] := by
  decide

/-- `97_test_vectors_derived_b.md` line 205, R221. -/
theorem test_step_log2FF :
    answers (asked 0x00000672 1 0 0) = [{ flt := .none, res := 0xFFFFFFFFFFF00001 }] := by
  decide

set_option maxRecDepth 8000 in
/-- `97_test_vectors_derived_b.md` line 228, R223. -/
theorem test_step_logP :
    answers (asked 0x00000273 1 0 0) = [{ flt := .none, res := 0xFFFFFFFFFFF4E8E0 }] := by
  decide

/-- `97_test_vectors_derived_b.md` line 237, R224. -/
theorem test_step_logF :
    answers (asked 0x00000573 1 0 0) = [{ flt := .none, res := 0xFFFFFFE9D1BD07BC }] := by
  decide

/-- `97_test_vectors_derived_b.md` line 225, R225. -/
theorem test_step_logFF :
    answers (asked 0x00000673 0x8000 0 0) = [{ flt := .none, res := 0xFFFFFFFFFFFF4E8E }] := by
  decide

set_option maxRecDepth 8000 in
/-- `44_exp_log_pow.md` R227. -/
theorem test_step_powP :
    answers (asked 0x00000274 0x1147A 0x30000 0) = [{ flt := .none, res := 0x14275 }] := by
  decide

/-- `97_test_vectors_derived_b.md` line 257, R228. -/
theorem test_step_powF :
    answers (asked 0x00000574 0x200000000 0xA00000000 0) = [{ flt := .none, res := 0x40001F27000 }] := by
  decide

set_option maxRecDepth 8000 in
/-- `44_exp_log_pow.md` R229. -/
theorem test_step_powFF :
    answers (asked 0x00000674 0x20000 0x30000 0) = [{ flt := .none, res := 0x7FFD6 }] := by
  decide

/-- `98_test_vectors_derived_c.md` line 27, R233. -/
theorem test_step_sinP :
    answers (asked 0x00000280 0xFFFE6DE1 0 0) = [{ flt := .none, res := 0xFFFFFFFFFFFEFFFF }] := by
  decide

/-- `98_test_vectors_derived_c.md` line 69, R234. -/
theorem test_step_sinF :
    answers (asked 0x00000580 0x7FFFFFFFFFFFFFFF 0 0) = [{ flt := .none, res := 0xFFFFFFFFFFFFFFF8 }] := by
  decide

/-- `98_test_vectors_derived_c.md` line 27, R235. -/
theorem test_step_sinFF :
    answers (asked 0x00000680 0xFFFE6DE1 0 0) = [{ flt := .none, res := 0xFFFFFFFFFFFEFFF7 }] := by
  decide

/-- `98_test_vectors_derived_c.md` line 42, R237. -/
theorem test_step_cosP :
    answers (asked 0x00000281 0x3243F 0 0) = [{ flt := .none, res := 0xFFFFFFFFFFFEFFFF }] := by
  decide

/-- `98_test_vectors_derived_c.md` line 76, R238. -/
theorem test_step_cosF :
    answers (asked 0x00000581 0x1921FB544 0 0) = [{ flt := .none, res := 0xFFFFFFFFFFFFFFF8 }] := by
  decide

/-- `98_test_vectors_derived_c.md` line 42, R239. -/
theorem test_step_cosFF :
    answers (asked 0x00000681 0x3243F 0 0) = [{ flt := .none, res := 0xFFFFFFFFFFFEFFF7 }] := by
  decide

/-- `98_test_vectors_derived_c.md` line 52, R241. -/
theorem test_step_tanP :
    answers (asked 0x00000282 0xFFFF0000 0 0) = [{ flt := .none, res := 0xFFFFFFFFFFFE714D }] := by
  decide

set_option maxRecDepth 8000 in
/-- `98_test_vectors_derived_c.md` line 87, R242. -/
theorem test_step_tanF :
    answers (asked 0x00000582 0xFFFFFFFF00000000 0 0) = [{ flt := .none, res := 0xFFFFFFFE714D4FA6 }] := by
  decide

/-- `98_test_vectors_derived_c.md` line 52, R243. -/
theorem test_step_tanFF :
    answers (asked 0x00000682 0xFFFF0000 0 0) = [{ flt := .none, res := 0xFFFFFFFFFFFE712E }] := by
  decide

set_option maxRecDepth 8000 in
/-- `98_test_vectors_derived_c.md` line 102, R246. -/
theorem test_step_atan2P :
    answers (asked 0x00000284 0xFFFF0000 0x10000 0) = [{ flt := .none, res := 0xFFFFFFFFFFFF36F0 }] := by
  decide

set_option maxRecDepth 8000 in
/-- `45_trig.md` R247. -/
theorem test_step_atan2F :
    answers (asked 0x00000484 0x20000 0x10000 0) = [{ flt := .none, res := 0x11B6E }] := by
  decide

set_option maxRecDepth 8000 in
/-- `45_trig.md` R248. -/
theorem test_step_atan2FF :
    answers (asked 0x00000684 0xFFFF0000 0xFFFE0000 0) = [{ flt := .none, res := 0xFFFFFFFFFFFD527A }] := by
  decide

set_option maxRecDepth 8000 in
/-- `98_test_vectors_derived_c.md` line 120, R250. -/
theorem test_step_atanP :
    answers (asked 0x00000285 0x80000000 0 0) = [{ flt := .none, res := 0xFFFFFFFFFFFE6DE3 }] := by
  decide

set_option maxRecDepth 8000 in
/-- `98_test_vectors_derived_c.md` line 170, R251. -/
theorem test_step_atanF :
    answers (asked 0x00000585 0xFFFFFFFF00000000 0 0) = [{ flt := .none, res := 0xFFFFFFFF36F06F0B }] := by
  decide

/-- `98_test_vectors_derived_c.md` line 116, R252. -/
theorem test_step_atanFF :
    answers (asked 0x00000685 0xFFFF0000 0 0) = [{ flt := .none, res := 0xFFFFFFFFFFFF36F2 }] := by
  decide

set_option maxRecDepth 8000 in
/-- `98_test_vectors_derived_c.md` line 127, R254. -/
theorem test_step_asinP :
    answers (asked 0x00000286 0xFFFF8000 0 0) = [{ flt := .none, res := 0xFFFFFFFFFFFF79F5 }] := by
  decide

/-- `98_test_vectors_derived_c.md` line 183, R255. -/
theorem test_step_asinF :
    answers (asked 0x00000586 0xFFFFFFFF00000000 0 0) = [{ flt := .none, res := 0xFFFFFFFE6DE04ABC }] := by
  decide

set_option maxRecDepth 8000 in
/-- `98_test_vectors_derived_c.md` line 127, R256. -/
theorem test_step_asinFF :
    answers (asked 0x00000686 0xFFFF8000 0 0) = [{ flt := .none, res := 0xFFFFFFFFFFFF79EA }] := by
  decide

set_option maxRecDepth 8000 in
/-- `98_test_vectors_derived_c.md` line 140, R257. -/
theorem test_step_acosP :
    answers (asked 0x00000287 0xFFFF8000 0 0) = [{ flt := .none, res := 0x2182A }] := by
  decide

set_option maxRecDepth 8000 in
/-- `98_test_vectors_derived_c.md` line 195, R258. -/
theorem test_step_acosF :
    answers (asked 0x00000587 0x100000000 0 0) = [{ flt := .none, res := 0xFFFFFFFFFFFFFE6C }] := by
  decide

set_option maxRecDepth 8000 in
/-- `98_test_vectors_derived_c.md` line 141, R259. -/
theorem test_step_acosFF :
    answers (asked 0x00000687 0x10000 0 0) = [{ flt := .none, res := 0xFFFFFFFFFFFFFFFC }] := by
  decide

/-! ## Faults, halt, reset, idle -/

/-- `41_poly_lut.md` R130: `LUTRD.SQRT.P 0, 4`, whose evaluator has degree 3. -/
theorem test_lutrd_index_fault :
    answers (asked 0x00007213 0 4 0) = [{ flt := .romIndex, res := 0 }] := by
  decide

/-- `30_encoding.md` R69: the all-zero word. -/
theorem test_illegal_word_fault :
    answers (asked 0 1 2 3) = [{ flt := .illegalCommand, res := 0 }] := by
  decide

/-- A command, for the lists below. -/
def ask (w : Word) (a b : Port) : Command := { word := w, opa := a, opb := b, opc := 0 }

/-- `60_exceptions.md` R304, R306: a fault halts the unit for legal and illegal words alike, until reset. -/
theorem test_fault_halts_until_reset :
    (match Host.Core.run Sys2Proof.core 6 { unit 0 0 0 with
        host := [.command (ask 0x30 1 2), .command (ask 0x12D 0 0), .command (ask 0x30 1 2),
          .command (ask 0 0 0), .reset [ask 0x30 5 6], .command (ask 0x30 1 2)] } with
      | .next t => some (State.responses t, State.flt t)
      | .fault _ => none
      | .refused _ => none) =
    some ([{ flt := .none, res := 3 }, { flt := .notImplemented, res := 0 },
      { flt := .notImplemented, res := 0 }, { flt := .notImplemented, res := 0 },
      { flt := .none, res := 3 }], .none) := by
  decide

/-- The word of the next step is the one `withFetchWord` gives. -/
theorem test_fetch_word_runs_first :
    step (State.reset.withFetchWord 32 0x30) =
      .next (completed 0 (accept { word := 0x30, opa := 0, opb := 0, opc := 0 } [] State.reset)) := rfl

/-! ## The statements' hypotheses can be met

One theorem for each statement with hypotheses, one clause for each of its cases, at the ends of its range. -/

theorem witness_DecodeEncodeRoundTrip : Instr.wf (.const .k32 (.s230 .oneS230)) = true := rfl

theorem witness_EncodeDecodeRoundTrip : decode 0x0001302E#32 = .ok (.const .k32 (.s230 .oneS230)) := rfl

theorem witness_StepRunsDecodedInstruction :
    (asked 0x87 1 0 0).flt = .none ∧
      (asked 0x287 1 0 0).host = .command { word := 0x287, opa := 1, opb := 0, opc := 0 } :: [] ∧
      decode 0x287#32 = .ok (.acosP .k32) := ⟨rfl, rfl, rfl⟩

/-- Illegal by the first bit of `ZERO` alone, by `OP`, and by `SEL` alone; legal next to each. -/
theorem witness_IllegalWordRaisesIllegalCommand :
    ¬ legalWord 0x00020030 ∧ legalWord 0x00000030 ∧ ¬ legalWord 0x00000083 ∧ legalWord 0x00000284 ∧
      ¬ legalWord 0x0000F02E ∧ legalWord 0x0001002E ∧ ¬ legalWord 0x0001012E := by
  unfold legalWord rowAllows
  refine ⟨?_, ?_, ?_, ?_, ?_, ?_, ?_⟩ <;> decide

theorem witness_HaltedUnitAnswersWithItsLatch :
    ({ asked 0x30 1 2 0 with flt := .romIndex } : State).flt ≠ .none ∧
      ({ asked 0x30 1 2 0 with flt := .romIndex } : State).host =
        .command { word := 0x30, opa := 1, opb := 2, opc := 0 } :: [] := ⟨by decide, rfl⟩

theorem witness_ResetClearsTheLatchAndIdleKeepsIt :
    ({ unit 0 0 0 with flt := .illegalCommand, host := [.reset [ask 0 0 0]] } : State).host = .reset [ask 0 0 0] :: [] ∧
      (unit 0 0 0).host = [] := ⟨rfl, rfl⟩

theorem romRef_legal : romWf romRef = true := by decide

/-- A halted unit with an honest history takes one more command. -/
theorem witness_StepKeepsInvariant :
    let s : State := { asked 0x30 1 2 0 with
      flt := .notImplemented, responses := [{ flt := .none, res := 3 }, { flt := .notImplemented, res := 0 }] }
    s.Inv ∧ step s = .next (deliver { flt := .notImplemented, res := 0 }
      (accept { word := 0x30, opa := 1, opb := 2, opc := 0 } [] s)) := by
  refine ⟨⟨romRef_legal, ?_, fun _ => rfl⟩, rfl⟩
  intro r hr
  fin_cases hr
  · exact fun h => absurd rfl h
  · exact fun _ => rfl

theorem witness_ResponseDependsOnCommandAndRom :
    let s := asked 0x30 1 2 0
    let s' : State := { s with responses := [{ flt := .none, res := 7 }], host := s.host ++ [.reset []] }
    s.host = .command { word := 0x30, opa := 1, opb := 2, opc := 0 } :: [] ∧
      s'.host = .command { word := 0x30, opa := 1, opb := 2, opc := 0 } :: [.reset []] ∧
      s.flt = .none ∧ s'.flt = .none ∧ s.rom = s'.rom ∧ ({ s with flt := .romIndex } : State).flt ≠ .none :=
  ⟨rfl, rfl, rfl, rfl, rfl, by decide⟩

/-- One command of each operand class, the ports it does not name differing. -/
theorem witness_UnnamedPortsAreIgnored :
    (∃ row ∈ opcodeMap, rowAllows 0x0000102E row ∧
      agreeOn row.cls ⟨0x0000102E, 1, 2, 3⟩ ⟨0x0000102E, 4, 5, 6⟩) ∧
    (∃ row ∈ opcodeMap, rowAllows 0x00000280 row ∧
      agreeOn row.cls ⟨0x00000280, 1, 2, 3⟩ ⟨0x00000280, 1, 5, 6⟩) ∧
    (∃ row ∈ opcodeMap, rowAllows 0x00000030 row ∧
      agreeOn row.cls ⟨0x00000030, 1, 2, 3⟩ ⟨0x00000030, 1, 2, 6⟩) ∧
    (∃ row ∈ opcodeMap, rowAllows 0x00000048 row ∧
      agreeOn row.cls ⟨0x00000048, 1, 2, 3⟩ ⟨0x00000048, 1, 2, 3⟩) ∧
    (asked 0x0000102E 1 2 3).host = .command ⟨0x0000102E, 1, 2, 3⟩ :: [] ∧
    (asked 0x0000102E 1 2 3).flt = .none := by
  unfold rowAllows
  refine ⟨⟨opcodeMap[21], by decide, by decide, trivial⟩, ⟨opcodeMap[50], by decide, by decide, rfl⟩,
    ⟨opcodeMap[22], by decide, by decide, rfl, rfl⟩, ⟨opcodeMap[35], by decide, by decide, rfl, rfl, rfl⟩,
    rfl, rfl⟩

/-- A K32 word and a `RATIO` word with `K = 1`, the upper halves of the ports differing. -/
theorem witness_UpperPortHalvesAreIgnored :
    (kField 0x00000030 = 0 ∧ opField 0x00000030 ≠ 0x22) ∧
      (kField 0x00000128 = 1 ∧ opField 0x00000128 ∈ [0x20, 0x21, 0x28, 0x29, 0x2A, 0x2B]) ∧
      (0xFFFFFFFF00000001#64).setWidth 32 = (0x0000000100000001#64).setWidth 32 := by
  decide

theorem witness_FaultHaltsUntilReset :
    let s : State := { unit 0 0 0 with
      host := .command (ask 0x12D 0 0) :: ([ask 0x30 1 2, ask 0 0 0].map .command ++ [.reset []]) }
    s.flt = .none ∧
      step s = .next (latchFault .notImplemented
        (accept (ask 0x12D 0 0) ([ask 0x30 1 2, ask 0 0 0].map .command ++ [.reset []]) s)) ∧
      (latchFault .notImplemented s).flt ≠ .none :=
  ⟨rfl, rfl, by decide⟩

theorem witness_StreamIsAnsweredCommandByCommand :
    let s : State := { unit 0 0 0 with host := [ask 0x30 1 2, ask 0x31 5 7].map .command }
    s.flt = .none ∧
      List.Forall₂ (soloAnswers s.rom) [ask 0x30 1 2, ask 0x31 5 7]
        [{ flt := .none, res := 3 }, { flt := .none, res := 0xFFFFFFFFFFFFFFFE }] :=
  ⟨rfl, .cons ⟨_, rfl, rfl⟩ (.cons ⟨_, rfl, rfl⟩ .nil)⟩

theorem witness_ClzCountsLeadingZeros :
    opA .k32 (unit 0xFFFFFFFF00000000 0 0) = 0 ∧ opA .k64 (unit 0xFFFFFFFF00000000 0 0) ≠ 0 := by
  decide

/-- The ends of the three ranges of the amount. -/
theorem witness_ShiftByASignedAmount :
    (wordB (unit 1 0 0)).toInt = 0 ∧ (wordB (unit 1 31 0)).toInt = 31 ∧
      (wordB (unit 1 0xFFFFFFFF 0)).toInt = -1 ∧ (wordB (unit 1 0xFFFFFFE1 0)).toInt = -31 ∧
      (wordB (unit 1 32 0)).toInt = 32 ∧ (wordB (unit 1 0xFFFFFFE0 0)).toInt = -32 := by
  decide

theorem witness_NormPacksExponentAndMantissa :
    opA .k64 (unit 0 0 0) = 0 ∧ opA .k64 (unit 0x8000000000000000 0 0) ≠ 0 := by
  decide

theorem witness_PolyIsHornerOnTheSelectedRow :
    romWf (unit 0 0 0).rom = true ∧ wordA (unit 0xFFFFFFFF00000000 0 0) = 0 ∧
      (wordA (unit 0x3FFFFFFF 0 0)).toInt = 2 ^ 30 - 1 := by
  decide

/-- The last index of a row and the first beyond it. -/
theorem witness_LutrdReadsACoefficientOrFaults :
    romWf (unit 0 0 0).rom = true ∧
      (wordB (unit 0 3 0)).toNat ≤ (evaluator romRef .sqrt .p).degree ∧
      (evaluator romRef .sqrt .p).degree < (wordB (unit 0 4 0)).toNat := by
  decide

/-- The least K32 value and a fraction that is truncated. -/
theorem witness_FloatRoundTripWithinOneUnit :
    value64 0xC0E0000000000000 = some (-32768) ∧ truncQ (-32768 * 2 ^ 16) = -(2 ^ 31) ∧
      value64 0x3FF8000000000000 = some (3 / 2) ∧ truncQ (3 / 2 * 2 ^ 16) = 98304 := by
  refine ⟨?_, ?_, ?_, ?_⟩
  · show ieeeValue 11 52 1023 0xC0E0000000000000 = _
    norm_num [ieeeValue]
  · norm_num [truncQ]
  · show ieeeValue 11 52 1023 0x3FF8000000000000 = _
    norm_num [ieeeValue]
  · norm_num [truncQ]

theorem witness_RatioTruncatesOneDivision :
    wordB (unit 1 0xFFFFFFFF00000000 0) = 0 ∧ wordB (unit 0x80000000 0xFFFFFFFF 0) ≠ 0 := by
  decide

theorem witness_ModIsTheTruncatedRemainder :
    (opB .k32 (unit 1 0 0)).toInt = 0 ∧ (opB .k32 (unit 1 0x80000000 0)).toInt ≠ 0 := by
  decide

/-- The two orders of the bounds, and the bounds equal. -/
theorem witness_MinMaxClampSelect :
    (opB .k32 (unit 2 1 3)).toInt ≤ (opC .k32 (unit 2 1 3)).toInt ∧
      (opB .k32 (unit 2 3 3)).toInt ≤ (opC .k32 (unit 2 3 3)).toInt ∧
      (opC .k32 (unit 2 3 1)).toInt < (opB .k32 (unit 2 3 1)).toInt := by
  decide

theorem witness_LerpIsAComposition :
    opC .k32 (unit 1 2 0) = 0 ∧ (opC .k32 (unit 1 2 0x10000)).toInt = 2 ^ (Kernel.k32).frac := by
  decide

/-- The two divisors mapped to 0, and one unit beside each. -/
theorem witness_ExactDivisionTruncatesWrapsOrSaturates :
    (opB .k64 (unit 1 0 0)).toInt = 0 ∧ (opB .k64 (unit 1 0x8000000000000000 0)).toInt = -(2 ^ 63) ∧
      (opB .k64 (unit 1 0x8000000000000001 0)).toInt ≠ -(2 ^ 63) ∧
      (opB .k64 (unit 1 0xFFFFFFFFFFFFFFFF 0)).toInt ≠ 0 := by
  decide

/-- The product at the lower end of the range: the least value times 1.0. -/
theorem witness_ExactDivisionUndoesExactMultiplication :
    let a := (opA .k32 (unit 0x80000000 0x10000 0)).toInt
    let b := (opB .k32 (unit 0x80000000 0x10000 0)).toInt
    b ≠ 0 ∧ b ≠ -(2 ^ 31) ∧ (2 : Int) ^ 16 ∣ a * b ∧ -(2 ^ 31) * 2 ^ 16 ≤ a * b ∧
      a * b < 2 ^ 31 * 2 ^ 16 := by
  decide

theorem witness_ApproximateDivisionPipeline :
    opB .k32 (unit 1 0 0) = 0 ∧ (opB .k32 (unit 1 0x80000000 0)).toInt = -(2 ^ 31) ∧
      opB .k32 (unit 1 0x80000001 0) ≠ 0 ∧ (opB .k32 (unit 1 0x80000001 0)).toInt ≠ -(2 ^ 31) := by
  decide

theorem witness_ReciprocalPipeline :
    opA .k64 (unit 0 0 0) = 0 ∧ (opA .k64 (unit 0x8000000000000000 0 0)).toInt = -(2 ^ 63) ∧
      opA .k64 (unit 0xFFFFFFFFFFFFFFFF 0 0) ≠ 0 ∧
      (opA .k64 (unit 0xFFFFFFFFFFFFFFFF 0 0)).toInt ≠ -(2 ^ 63) := by
  decide

/-- The same cases for the exact and the approximate roots and for the logarithms: at 0 and at one unit. -/
theorem witness_ExactSquareRootIsTheFloor :
    (opA .k32 (unit 0 0 0)).toInt ≤ 0 ∧ 0 < (opA .k32 (unit 1 0 0)).toInt := by
  decide

theorem witness_ApproximateSquareRootPipeline :
    (opA .k64 (unit 0 0 0)).toInt ≤ 0 ∧ 0 < (opA .k64 (unit 0x7FFFFFFFFFFFFFFF 0 0)).toInt := by
  decide

theorem witness_ReciprocalSquareRootPipeline :
    (opA .k64 (unit 0xFFFFFFFFFFFFFFFF 0 0)).toInt ≤ 0 ∧ 0 < (opA .k64 (unit 1 0 0)).toInt := by
  decide

theorem witness_LogarithmPipelines :
    (opA .k32 (unit 0x80000000 0 0)).toInt ≤ 0 ∧ 0 < (opA .k32 (unit 1 0 0)).toInt := by
  decide

/-- An evaluator of constant value 1.0. -/
def flat : Evaluator := { degree := 3, rowCount := 1, coef := [row [0, 0, 0, 0x40000000]] }

/-- A ROM whose square-root evaluators are the constant 1.0. -/
def flatRom : CoefRom := { romRef with sqrt := { p := flat, f := flat, ff := flat } }

theorem qmul30_zero (c : Word) : qmul30 c 0 = 0 := by
  simp [qmul30]

theorem flatRom_poly (slot : Slot) (c : Word) : poly flatRom .sqrt slot c = 0x40000000#32 := by
  have h0 : fma30 c 0 0 = 0 := by
    unfold fma30
    rw [qmul30_zero]
    rfl
  have h : fma30 c (fma30 c (fma30 c 0 0) 0) 0x40000000#32 = 0x40000000#32 := by
    rw [h0, h0]
    unfold fma30
    rw [qmul30_zero]
    rfl
  cases slot <;> exact h

theorem witness_SquareRootIsNotNegativeOnBoundedRom :
    (Slot.f, Instr.sqrtF) ∈ [(Slot.p, Instr.sqrtP), (Slot.f, Instr.sqrtF), (Slot.ff, Instr.sqrtFF)] ∧
      ∀ c : Word, 0 ≤ c.toInt → c.toInt < 2 ^ 30 →
        0 ≤ (poly flatRom .sqrt .f c).toInt ∧ (poly flatRom .sqrt .f c).toInt ≤ 1518500249 := by
  refine ⟨by simp, fun c _ _ => ?_⟩
  rw [flatRom_poly]
  decide

/-- Both bounds of K32 exactly, one unit inside each, and the bounds of K64. -/
theorem witness_BaseTwoExponentialPipeline :
    (opA .k32 (unit 0xF0000 0 0)).toInt = 15 * 2 ^ 16 ∧ (opA .k32 (unit 0xFFF10000 0 0)).toInt = -(15 * 2 ^ 16) ∧
      (opA .k32 (unit 0xEFFFF 0 0)).toInt < 15 * 2 ^ 16 ∧ -(15 * 2 ^ 16) < (opA .k32 (unit 0xFFF10001 0 0)).toInt ∧
      (opA .k64 (unit 0x2000000000 0 0)).toInt = 32 * 2 ^ 32 ∧
      (opA .k64 (unit 0xFFFFFFE000000000 0 0)).toInt = -(32 * 2 ^ 32) := by
  decide

theorem witness_PowerIsExpOfLog :
    opB .k32 (unit 0 0 0) = 0 ∧ (opB .k32 (unit 0 1 0) ≠ 0 ∧ (opA .k32 (unit 0 1 0)).toInt ≤ 0) ∧
      (opB .k32 (unit 1 1 0) ≠ 0 ∧ 0 < (opA .k32 (unit 1 1 0)).toInt) := by
  decide

/-- The angle 0, and reduced angles on both sides of the mirror's bounds. -/
theorem witness_SinePipeline :
    opA .k64 (unit 0 0 0) = 0 ∧
      (quarterTurns .k64 (opA .k64 (unit 0x00000001921FB544 0 0))).toInt = 2 ^ 30 ∧
      (quarterTurns .k32 (opA .k32 (unit 0x0001921F 0 0))).toInt < 2 ^ 30 := by
  decide

/-- `45_trig.md` R241: the cosine of the K64 constant `PIHALF` is 0. -/
theorem witness_TangentIsTheQuotientOfTwoSines :
    sineAt romRef .k64 .p (quarterTurns .k64 0x00000001921FB544 + 0x40000000#32) 0 :=
  ⟨0, by decide, by decide, by decide, by decide, by decide⟩

/-- The axis cases, and the smallest `x` on each side of it. -/
theorem witness_Atan2QuadrantReconstruction :
    (opB .k32 (unit 1 0 0)).toInt = 0 ∧ 0 < (opA .k32 (unit 1 0 0)).toInt ∧
      (opA .k32 (unit 0xFFFFFFFF 0 0)).toInt < 0 ∧ (opA .k32 (unit 0 0 0)).toInt = 0 ∧
      (opB .k32 (unit 0 1 0)).toInt ≠ 0 ∧ (opB .k32 (unit 0 0xFFFFFFFF 0)).toInt ≠ 0 := by
  decide

/-- Both ends of the domain in both kernels, and one unit outside each. -/
theorem witness_ArcsineAndArccosineThroughAtan2 :
    (opA .k32 (unit 0x10001 0 0)).toInt = 2 ^ 16 + 1 ∧ (opA .k32 (unit 0xFFFEFFFF 0 0)).toInt = -(2 ^ 16) - 1 ∧
      (opA .k32 (unit 0x10000 0 0)).toInt = 2 ^ 16 ∧ (opA .k32 (unit 0xFFFF0000 0 0)).toInt = -(2 ^ 16) ∧
      (opA .k64 (unit 0x100000000 0 0)).toInt = 2 ^ 32 ∧
      (opA .k64 (unit 0xFFFFFFFF00000000 0 0)).toInt = -(2 ^ 32) ∧
      (opA .k64 (unit 0x100000001 0 0)).toInt = 2 ^ 32 + 1 := by
  decide

/-- One input for each line of the list, at the edge of its condition; the tangent's is the one above. -/
theorem witness_InvalidDomainsMapToZero :
    (opB .k32 (unit 5 0 0)).toInt = 0 ∧ (opB .k32 (unit 5 0x80000000 0)).toInt = -(2 ^ 31) ∧
      wordB (unit 5 0 0) = 0 ∧ (opA .k32 (unit 0 0 0)).toInt = 0 ∧
      (opA .k32 (unit 0x80000000 0 0)).toInt = -(2 ^ 31) ∧ (opA .k32 (unit 0xFFFFFFFF 0 0)).toInt ≤ 0 ∧
      ((opA .k32 (unit 0 1 0)).toInt ≤ 0 ∧ (opB .k32 (unit 0 1 0)).toInt ≠ 0) ∧
      2 ^ 16 < (opA .k32 (unit 0x10001 0 0)).toInt ∧ (opA .k32 (unit 0xFFFEFFFF 0 0)).toInt < -(2 ^ 16) := by
  decide

end Sys2Proof.Tests
end

/-! # The unit's state: what a step and an instruction do to it (O11, O12) -/

namespace Sys2Proof.StateProofs

open Sys2Proof
open Sys2Proof.Machine

/-- The unit never stops: every state has a next one (`60_exceptions.md` R304). -/
theorem step_answers (s : State) : ∃ t, step s = .next t := by
  rcases hhost : s.host with _ | ⟨c | lost, rest⟩
  · exact ⟨s, step_idle hhost⟩
  · rw [step_command hhost]
    obtain ⟨-, h⟩ | ⟨-, _, h⟩ | ⟨-, _, -, h⟩ := execCommand_cases (accept c rest s) <;> exact ⟨_, h⟩
  · exact ⟨_, step_reset hhost⟩

/-- Settles O11, by the inversion of a step: of its five cases a fault and a reset are the only ones that
move the latch. -/
theorem latchChangesOnlyByFaultOrReset : Obligations.LatchChangesOnlyByFaultOrReset := by
  intro s
  obtain ⟨t, ht⟩ := step_answers s
  refine ⟨t, ht, step_rom ht, ?_⟩
  obtain ⟨-, rfl⟩ | ⟨lost, rest, hhost, rfl⟩ | ⟨c, rest, hhost, ⟨-, rfl⟩ | ⟨-, v, rfl⟩ | ⟨hrun, f, -, rfl⟩⟩ :=
    step_cases ht
  case inl => exact .inl rfl
  case inr.inl => exact .inr (.inr ⟨rfl, ⟨lost, rest, hhost⟩, rfl⟩)
  case inr.inr.inl => exact .inl rfl
  case inr.inr.inr.inl => exact .inl rfl
  case inr.inr.inr.inr => exact .inr (.inl ⟨hrun, ⟨c, rest, hhost⟩, rfl⟩)

/-- Settles O12, by the inversion of an instruction: it completes, or it is `NARROW` or `LUTRD` and latches
its fault. -/
theorem instructionFrame : Obligations.InstructionFrame := by
  intro i s
  obtain ⟨v, h⟩ | ⟨hi, h⟩ | ⟨fn, slot, hslot, -, h⟩ := exec_cases i s
  · exact ⟨_, _, h, rfl, rfl, rfl, rfl, .inl ⟨rfl, rfl⟩⟩
  · exact ⟨_, _, h, rfl, rfl, rfl, rfl, .inr (.inl ⟨rfl, rfl, hi⟩)⟩
  · exact ⟨_, _, h, rfl, rfl, rfl, rfl,
      .inr (.inr ⟨rfl, rfl, fn, hslot.imp And.left (Or.imp And.left And.left)⟩)⟩

end Sys2Proof.StateProofs

/-! # The constant ROM against the real constants (O33, O34) -/

namespace Sys2Proof.ConstantProofs

open Sys2Proof
open Sys2Proof.Machine
open Sys2Proof.Claims

/-! ## Bounds on the real constants, tight enough for 32 fraction bits -/

theorem exp_one_gt : 2.71828182845 < Real.exp 1 := by
  linarith [(abs_sub_le_iff.1 Real.exp_one_near_20).2]

theorem exp_one_lt : Real.exp 1 < 2.71828182847 := by
  linarith [(abs_sub_le_iff.1 Real.exp_one_near_20).1]

/-- The Taylor polynomial of `exp` at 0 with its remainder: an upper bound below 1 at 14 terms. -/
theorem log_two_gt : 0.69314718055 < Real.log 2 := by
  rw [Real.lt_log_iff_exp_lt (by norm_num)]
  calc Real.exp 0.69314718055
      ≤ _ := Real.exp_bound' (by norm_num) (by norm_num) (n := 14) (by norm_num)
    _ < 2 := by norm_num [Finset.sum_range_succ, Nat.factorial]

theorem log_two_lt : Real.log 2 < 0.69314718057 := by
  rw [Real.log_lt_iff_lt_exp (by norm_num)]
  calc (2 : ℝ) < ∑ i ∈ Finset.range 14, (0.69314718057 : ℝ) ^ i / i.factorial := by
        norm_num [Finset.sum_range_succ, Nat.factorial]
    _ ≤ Real.exp 0.69314718057 := Real.sum_le_exp_of_nonneg (by norm_num) 14

/-! ## Floors at 32 fraction bits -/

/-- Bounds whose scaled values share one unit interval decide the floor. -/
theorem floor_of_bounds {v lo hi : ℝ} {n : ℤ} (hlo : lo < v) (hhi : v < hi)
    (hn : (n : ℝ) ≤ lo * 2 ^ 32) (hn1 : hi * 2 ^ 32 ≤ n + 1) : ⌊v * 2 ^ 32⌋ = n :=
  Int.floor_eq_iff.2
    ⟨hn.trans (mul_le_mul_of_nonneg_right hlo.le (by positivity)),
      (mul_lt_mul_of_pos_right hhi (by positivity)).trans_le hn1⟩

theorem floor_pi : ⌊Real.pi * 2 ^ 32⌋ = 13493037704 :=
  floor_of_bounds Real.pi_gt_d20 Real.pi_lt_d20 (by norm_num) (by norm_num)

theorem floor_two_pi : ⌊2 * Real.pi * 2 ^ 32⌋ = 26986075409 :=
  floor_of_bounds (mul_lt_mul_of_pos_left Real.pi_gt_d20 two_pos)
    (mul_lt_mul_of_pos_left Real.pi_lt_d20 two_pos) (by norm_num) (by norm_num)

theorem floor_half_pi : ⌊Real.pi / 2 * 2 ^ 32⌋ = 6746518852 :=
  floor_of_bounds (div_lt_div_of_pos_right Real.pi_gt_d20 two_pos)
    (div_lt_div_of_pos_right Real.pi_lt_d20 two_pos) (by norm_num) (by norm_num)

theorem floor_exp_one : ⌊Real.exp 1 * 2 ^ 32⌋ = 11674931554 :=
  floor_of_bounds exp_one_gt exp_one_lt (by norm_num) (by norm_num)

theorem floor_log_two : ⌊Real.log 2 * 2 ^ 32⌋ = 2977044471 :=
  floor_of_bounds log_two_gt log_two_lt (by norm_num) (by norm_num)

theorem floor_inv_log_two : ⌊1 / Real.log 2 * 2 ^ 32⌋ = 6196328018 :=
  floor_of_bounds (one_div_lt_one_div_of_lt (Real.log_pos one_lt_two) log_two_lt)
    (one_div_lt_one_div_of_lt (by norm_num) log_two_gt) (by norm_num) (by norm_num)

/-- The K32 pattern of a constant is the K64 one without its low 16 bits. -/
theorem floor_sixteen_of_floor_thirtytwo (v : ℝ) : ⌊v * 2 ^ 16⌋ = ⌊v * 2 ^ 32⌋ / 2 ^ 16 := by
  have h : v * 2 ^ 16 = v * 2 ^ 32 / ((2 ^ 16 : ℕ) : ℝ) := by norm_num; ring
  rw [h, Int.floor_div_natCast]
  norm_num

/-! ## The table -/

/-- The decimal column of the constant table of a kernel (`10_state.md` R27). -/
def constInt : Kernel → KConst → Int
  | .k32 => constInt32
  | .k64 => constInt64

theorem signedResult_constRaw (k : Kernel) (c : KConst) :
    signedResult (constRaw k c) = BitVec.ofInt 64 (constInt k c) := by
  cases k <;> cases c <;> rfl

/-- A constant whose real value is the same in both kernels needs its floor at 32 fraction bits alone. -/
theorem constInt_eq_floor {c : KConst} {v : ℝ} (h : ⌊v * 2 ^ 32⌋ = constInt64 c)
    (hcol : constInt64 c / 2 ^ 16 = constInt32 c) (k : Kernel) : ⌊v * 2 ^ k.frac⌋ = constInt k c := by
  cases k with
  | k32 => exact (floor_sixteen_of_floor_thirtytwo v).trans (h ▸ hcol)
  | k64 => exact h

/-- The table holds `floor(c * 2^F)` of the real value of every constant (`10_state.md` R27). -/
theorem exists_real_const (k : Kernel) (c : KConst) :
    ∃ v : ℝ, isRealConst k c v ∧ ⌊v * 2 ^ k.frac⌋ = constInt k c := by
  cases c with
  | zero => exact ⟨0, rfl, constInt_eq_floor (by norm_num [constInt64]) rfl k⟩
  | one => exact ⟨1, rfl, constInt_eq_floor (by norm_num [constInt64]) rfl k⟩
  | two => exact ⟨2, rfl, constInt_eq_floor (by norm_num [constInt64]) rfl k⟩
  | three => exact ⟨3, rfl, constInt_eq_floor (by norm_num [constInt64]) rfl k⟩
  | four => exact ⟨4, rfl, constInt_eq_floor (by norm_num [constInt64]) rfl k⟩
  | half => exact ⟨1 / 2, rfl, constInt_eq_floor (by norm_num [constInt64]) rfl k⟩
  | negOne => exact ⟨-1, rfl, constInt_eq_floor (by norm_num [constInt64]) rfl k⟩
  | pi => exact ⟨Real.pi, rfl, constInt_eq_floor floor_pi rfl k⟩
  | pi2 => exact ⟨2 * Real.pi, rfl, constInt_eq_floor floor_two_pi rfl k⟩
  | piHalf => exact ⟨Real.pi / 2, rfl, constInt_eq_floor floor_half_pi rfl k⟩
  | e => exact ⟨Real.exp 1, rfl, constInt_eq_floor floor_exp_one rfl k⟩
  | minVal => exact ⟨_, rfl, by cases k <;> norm_num [constInt, constInt32, constInt64]⟩
  | maxVal => exact ⟨_, rfl, by cases k <;> norm_num [constInt, constInt32, constInt64]⟩
  | rcpLn2 => exact ⟨1 / Real.log 2, rfl, constInt_eq_floor floor_inv_log_two rfl k⟩
  | ln2 => exact ⟨Real.log 2, rfl, constInt_eq_floor floor_log_two rfl k⟩

/-- Settles O33: `CONST` completes with the table's entry, and the table's entry is the floor. -/
theorem kernelConstantsAreFloorsOfReals : Obligations.KernelConstantsAreFloorsOfReals := by
  intro k c s
  obtain ⟨v, hv, hfloor⟩ := exists_real_const k c
  refine ⟨v, hv, ?_⟩
  rw [hfloor, ← signedResult_constRaw]
  rfl

/-! ## The s2.30 constants -/

/-- `sqrt 2` between the two neighbouring multiples of `2^-31`. -/
theorem sqrt_two_bounds : 3037000499 ≤ Real.sqrt 2 * 2 ^ 31 ∧ Real.sqrt 2 * 2 ^ 31 < 3037000500 := by
  have hlo : (3037000499 / 2 ^ 31 : ℝ) ≤ Real.sqrt 2 := Real.le_sqrt_of_sq_le (by norm_num)
  have hhi : Real.sqrt 2 < 3037000500 / 2 ^ 31 := (Real.sqrt_lt' (by norm_num)).2 (by norm_num)
  exact ⟨(div_le_iff₀ (by norm_num)).1 hlo, (lt_div_iff₀ (by norm_num)).1 hhi⟩

theorem floor_sqrt_two : ⌊Real.sqrt 2 * 2 ^ 30⌋ = 1518500249 := by
  obtain ⟨hlo, hhi⟩ := sqrt_two_bounds
  rw [Int.floor_eq_iff]
  constructor <;> push_cast <;> linarith

theorem inv_sqrt_two_near : |(759250125 : ℝ) - 2 ^ 30 / Real.sqrt 2| < 1 / 2 := by
  obtain ⟨hlo, hhi⟩ := sqrt_two_bounds
  have hdiv : 2 ^ 30 / Real.sqrt 2 = Real.sqrt 2 * 2 ^ 29 := by
    rw [div_eq_iff (by positivity)]
    linear_combination (-(2 : ℝ) ^ 29) * Real.mul_self_sqrt (show (0 : ℝ) ≤ 2 by norm_num)
  rw [hdiv, abs_sub_lt_iff]
  constructor <;> linarith

theorem two_div_pi_near : |(683565276 : ℝ) - 2 / Real.pi * 2 ^ 30| < 1 / 2 := by
  have hlo : (683565275.5 : ℝ) < 2 / Real.pi * 2 ^ 30 := by
    rw [div_mul_eq_mul_div, lt_div_iff₀ Real.pi_pos]
    linarith [Real.pi_lt_d20]
  have hhi : 2 / Real.pi * 2 ^ 30 < (683565276.5 : ℝ) := by
    rw [div_mul_eq_mul_div, div_lt_iff₀ Real.pi_pos]
    linarith [Real.pi_gt_d20]
  rw [abs_sub_lt_iff]
  constructor <;> linarith

/-- Settles O34: the patterns are the table's decimals, and each decimal is the floor or the nearest
integer. -/
theorem s230ConstantsApproximateReals : Obligations.S230ConstantsApproximateReals := by
  have hsqrt : (constS230 .sqrt2).toInt = 1518500249 := rfl
  have hhalf : (constS230 .halfSqrt2).toInt = 759250125 := rfl
  have hpi : (constS230 .rcpHalfPi).toInt = 683565276 := rfl
  refine ⟨hsqrt.trans floor_sqrt_two.symm, ?_, ?_, rfl⟩
  · rw [hhalf]
    exact_mod_cast inv_sqrt_two_near
  · rw [hpi]
    exact_mod_cast two_div_pi_near

end Sys2Proof.ConstantProofs

/-! # What an instruction reads

The operand forms of every instruction, and the congruence the noninterference statements rest on: states
that agree on the forms of an instruction get one answer from it (`10_state.md` R21, `20_memory.md` R47). -/

namespace Sys2Proof.ReadProofs

open Sys2Proof
open Sys2Proof.Machine
open Sys2Proof.Claims

/-! ## Operand forms -/

/-- The width at which each port is read, as the kernel of that width; `none` for a port that is not read.
A 32-bit integer, an s2.30 value and a binary32 pattern are read at the width of K32, a binary64 pattern at
that of K64 (`10_state.md` R21). -/
structure OperandForms where
  a : Option Kernel
  b : Option Kernel
  c : Option Kernel

/-- The operand forms of an instruction (`10_state.md` R21, `30_encoding.md` R66). -/
def operandForms : Instr → OperandForms
  | .const _ _ | .narrow => ⟨none, none, none⟩
  | .polyP _ | .polyF _ | .polyFF _ | .fromint _ | .fromf32 _ | .ratio10 _ | .ratio100 _ | .ratio1000 _
  | .widen => ⟨some .k32, none, none⟩
  | .qmul30 | .lutrdP _ | .lutrdF _ | .lutrdFF _ | .ratio _ => ⟨some .k32, some .k32, none⟩
  | .fma30 => ⟨some .k32, some .k32, some .k32⟩
  | .fromf64 _ => ⟨some .k64, none, none⟩
  | .shrL k | .shrA k => ⟨some k, some .k32, none⟩
  | .clamp k | .lerp k => ⟨some k, some k, some k⟩
  | .add k | .sub k | .mul k | .mod k | .cmpeq k | .cmpne k | .cmplt k | .cmple k | .cmpgt k | .cmpge k
  | .min k | .max k | .divX k | .divF k | .divFF k | .powP k | .powF k | .powFF k
  | .atan2P k | .atan2F k | .atan2FF k => ⟨some k, some k, none⟩
  | .clz k | .norm k | .tointf k | .tointc k | .tointr k | .tof32 k | .tof64 k | .neg k
  | .floor k | .ceil k | .round k | .fract k | .rcpP k | .rcpF k | .rcpFF k
  | .sqrtX k | .sqrtP k | .sqrtF k | .sqrtFF k | .rsqrtP k | .rsqrtF k | .rsqrtFF k
  | .exp2P k | .exp2F k | .exp2FF k | .expP k | .expF k | .expFF k | .log2P k | .log2F k | .log2FF k
  | .logP k | .logF k | .logFF k | .sinP k | .sinF k | .sinFF k | .cosP k | .cosF k | .cosFF k
  | .tanP k | .tanF k | .tanFF k | .atanP k | .atanF k | .atanFF k
  | .asinP k | .asinF k | .asinFF k | .acosP k | .acosF k | .acosFF k => ⟨some k, none, none⟩

/-- Two states agree on the ROM and on the operands of an instruction. -/
structure AgreeOnReads (i : Instr) (s s' : State) : Prop where
  rom : s.rom = s'.rom
  opA : ∀ k ∈ (operandForms i).a, opA k s = opA k s'
  opB : ∀ k ∈ (operandForms i).b, opB k s = opB k s'
  opC : ∀ k ∈ (operandForms i).c, opC k s = opC k s'

/-! ## Equal answers -/

/-- Two answers say the same of their states: both complete with one result, or both latch one fault. -/
def SameAnswer (s s' : State) (x x' : Answer) : Prop :=
  (∃ v, x = .next (completed v s) ∧ x' = .next (completed v s')) ∨
    ∃ c, x = .next (latchFault c s) ∧ x' = .next (latchFault c s')

theorem SameAnswer.of_complete {s s' : State} {v v' : Port} (h : v = v') :
    SameAnswer s s' (complete v s) (complete v' s') :=
  .inl ⟨v, rfl, h ▸ rfl⟩

theorem SameAnswer.of_raiseFault (s s' : State) (c : FaultCode) :
    SameAnswer s s' (raiseFault c s) (raiseFault c s') :=
  .inr ⟨c, rfl, rfl⟩

theorem sameAnswer_lutrdNext {s s' : State} (slot : Slot) (fn : EvalFn) (hrom : s.rom = s'.rom)
    (ha : wordA s = wordA s') (hb : wordB s = wordB s') :
    SameAnswer s s' (.next (lutrdNext slot fn s)) (.next (lutrdNext slot fn s')) := by
  unfold lutrdNext
  rw [hrom, ha, hb]
  split
  · exact .inr ⟨_, rfl, rfl⟩
  · exact .inl ⟨_, rfl, rfl⟩

/-- An instruction's answer is a function of the ROM and of its operands (`20_memory.md` R47). -/
theorem exec_sameAnswer {i : Instr} {s s' : State} (h : AgreeOnReads i s s') :
    SameAnswer s s' (exec i s) (exec i s') := by
  obtain ⟨hrom, ha, hb, hc⟩ := h
  cases i with
  | narrow => exact .of_raiseFault s s' _
  | const k id => exact .of_complete rfl
  | lutrdP fn | lutrdF fn | lutrdFF fn =>
    exact sameAnswer_lutrdNext _ fn hrom (ha .k32 rfl) (hb .k32 rfl)
  | polyP fn | polyF fn | polyFF fn =>
    have hwa : wordA s = wordA s' := ha .k32 rfl
    exact .of_complete (by rw [hrom, hwa])
  | fromint k | fromf32 k | ratio10 k | ratio100 k | ratio1000 k =>
    have hwa : wordA s = wordA s' := ha .k32 rfl
    exact .of_complete (by rw [hwa])
  | widen => exact .of_complete (by rw [ha .k32 rfl])
  | qmul30 | ratio k =>
    have hwa : wordA s = wordA s' := ha .k32 rfl
    have hwb : wordB s = wordB s' := hb .k32 rfl
    exact .of_complete (by rw [hwa, hwb])
  | fma30 =>
    have hwa : wordA s = wordA s' := ha .k32 rfl
    have hwb : wordB s = wordB s' := hb .k32 rfl
    have hwc : wordC s = wordC s' := hc .k32 rfl
    exact .of_complete (by rw [hwa, hwb, hwc])
  | fromf64 k =>
    have hport := ha .k64 rfl
    rw [opA_k64, opA_k64] at hport
    exact .of_complete (by rw [hport])
  | shrL k | shrA k =>
    have hwb : wordB s = wordB s' := hb .k32 rfl
    exact .of_complete (by rw [ha k rfl, hwb])
  | clamp k | lerp k => exact .of_complete (by rw [ha k rfl, hb k rfl, hc k rfl])
  | divF k | divFF k | powP k | powF k | powFF k | atan2P k | atan2F k | atan2FF k =>
    exact .of_complete (by rw [hrom, ha k rfl, hb k rfl])
  | add k | sub k | mul k | mod k | cmpeq k | cmpne k | cmplt k | cmple k | cmpgt k | cmpge k
  | min k | max k | divX k =>
    exact .of_complete (by rw [ha k rfl, hb k rfl])
  | clz k | norm k | tointf k | tointc k | tointr k | tof32 k | tof64 k | neg k | floor k | ceil k
  | round k | fract k | sqrtX k =>
    exact .of_complete (by rw [ha k rfl])
  | rcpP k | rcpF k | rcpFF k | sqrtP k | sqrtF k | sqrtFF k | rsqrtP k | rsqrtF k | rsqrtFF k
  | exp2P k | exp2F k | exp2FF k | expP k | expF k | expFF k | log2P k | log2F k | log2FF k
  | logP k | logF k | logFF k | sinP k | sinF k | sinFF k | cosP k | cosF k | cosFF k
  | tanP k | tanF k | tanFF k | atanP k | atanF k | atanFF k
  | asinP k | asinF k | asinFF k | acosP k | acosF k | acosFF k =>
    exact .of_complete (by rw [hrom, ha k rfl])

/-! ## From an instruction to a step -/

theorem SameAnswer.answerAlike {s s' : State} {c d : Command} {rest rest' : List HostEvent}
    (hhost : s.host = .command c :: rest) (hhost' : s'.host = .command d :: rest')
    (hflt : s.flt = s'.flt)
    (h : SameAnswer (accept c rest s) (accept d rest' s') (execCommand (accept c rest s))
      (execCommand (accept d rest' s'))) : answerAlike s s' := by
  rw [← step_command hhost, ← step_command hhost'] at h
  obtain ⟨v, ht, ht'⟩ | ⟨f, ht, ht'⟩ := h
  · exact ⟨_, _, _, ht, ht', rfl, rfl, hflt⟩
  · exact ⟨_, _, _, ht, ht', rfl, rfl, rfl⟩

/-- Two running units answer commands of one word alike if, where that word is legal, they agree on what its
instruction reads. -/
theorem answerAlike_of_agreeOnReads {s s' : State} {c d : Command} {rest rest' : List HostEvent}
    (hrun : s.flt = .none) (hrun' : s'.flt = .none)
    (hhost : s.host = .command c :: rest) (hhost' : s'.host = .command d :: rest')
    (hword : c.word = d.word)
    (hreads : ∀ i, decode c.word = .ok i → AgreeOnReads i (accept c rest s) (accept d rest' s')) :
    answerAlike s s' := by
  refine SameAnswer.answerAlike hhost hhost' (hrun.trans hrun'.symm) ?_
  cases hdec : decode c.word with
  | error e =>
    rw [execCommand_illegal (s := accept c rest s) hrun hdec,
      execCommand_illegal (s := accept d rest' s') hrun' (hword ▸ hdec)]
    exact .of_raiseFault _ _ _
  | ok i =>
    rw [execCommand_legal (s := accept c rest s) hrun hdec,
      execCommand_legal (s := accept d rest' s') hrun' (hword ▸ hdec)]
    exact exec_sameAnswer (hreads i hdec)

end Sys2Proof.ReadProofs

/-! # The decoder, inverted

A word that decodes is the word of the instruction it decodes to: one lemma for each shape of a row of the
opcode map, then the map (`30_encoding.md` R66, R67). -/

namespace Sys2Proof.DecodeProofs

open Sys2Proof

/-! ## Fields and their codes -/

/-- The fields of a word with `ZERO = 0` pack to the word again (`30_encoding.md` R61). -/
theorem pack_fieldsOf {w : Word} (hzero : (fieldsOf w).zero = 0) :
    pack (fieldsOf w).op (fieldsOf w).k (fieldsOf w).tier (fieldsOf w).mode (fieldsOf w).sel = w := by
  have hhigh : ∀ i, i < 32 → 17 ≤ i → w.getLsbD i = false := by
    intro i hi hlo
    have hbit := congrArg (fun z : BitVec 15 => z.getLsbD (i - 17)) hzero
    simpa [fieldsOf, show 17 + (i - 17) = i by omega, show i - 17 < 15 by omega] using hbit
  apply BitVec.eq_of_getLsbD_eq
  intro i hi
  simp only [pack, fieldsOf, BitVec.getLsbD_or, BitVec.getLsbD_shiftLeft, BitVec.getLsbD_setWidth,
    BitVec.getLsbD_extractLsb']
  grind

theorem eq_one_of_ne_zero : ∀ b : BitVec 1, b ≠ 0 → b = 1 := by decide

theorem code_kernel (f : Fields) : f.kernel.code = f.k := by
  unfold Fields.kernel
  split
  · exact Eq.symm ‹_›
  · rename_i hk
    exact (eq_one_of_ne_zero f.k hk).symm

theorem code_of_evalFnOf : ∀ sel : BitVec 5, ∀ fn ∈ evalFnOf sel, fn.code = sel := by decide

theorem code_of_constNameOf : ∀ sel : BitVec 5, ∀ id ∈ constNameOf sel, id.code = sel := by decide

/-! ## The shapes of a row -/

/-- What a row of the map for the opcode `op` accepts is an instruction whose word has that opcode and the
other fields of `f`. -/
def Reencodes (op : Nat) (f : Fields) (x : Except Illegal Instr) : Prop :=
  ∀ i, x = .ok i → encode i = pack (BitVec.ofNat 8 op) f.k f.tier f.mode f.sel

variable {op : Nat} {f : Fields}

theorem noModeNoSel_eq_ok {i j : Instr} (h : f.noModeNoSel i = .ok j) : f.mode = 0 ∧ f.sel = 0 ∧ i = j := by
  unfold Fields.noModeNoSel at h
  split_ifs at h with hmode hsel
  exact ⟨not_not.1 hmode, not_not.1 hsel, Except.ok.inj h⟩

theorem reencodes_plain {build : Kernel → Instr}
    (hbuild : ∀ k, encode (build k) = pack (BitVec.ofNat 8 op) k.code 0 0 0) :
    Reencodes op f (f.plain build) := by
  intro i h
  unfold Fields.plain at h
  split_ifs at h with htier
  obtain ⟨hmode, hsel, rfl⟩ := noModeNoSel_eq_ok h
  rw [hbuild, code_kernel, not_not.1 htier, hmode, hsel]

theorem reencodes_fixedKernel {k : Kernel} {j : Instr}
    (hj : encode j = pack (BitVec.ofNat 8 op) k.code 0 0 0) : Reencodes op f (f.fixedKernel k j) := by
  intro i h
  unfold Fields.fixedKernel at h
  split_ifs at h with hk htier
  obtain ⟨hmode, hsel, rfl⟩ := noModeNoSel_eq_ok h
  rw [hj, not_not.1 hk, not_not.1 htier, hmode, hsel]

theorem reencodes_shift {mkL mkA : Kernel → Instr}
    (hL : ∀ k, encode (mkL k) = pack (BitVec.ofNat 8 op) k.code 0 0 0)
    (hA : ∀ k, encode (mkA k) = pack (BitVec.ofNat 8 op) k.code 0 1 0) :
    Reencodes op f (f.shift mkL mkA) := by
  intro i h
  unfold Fields.shift at h
  split_ifs at h with htier hsel hmode <;> obtain rfl := Except.ok.inj h
  · rw [hL, code_kernel, not_not.1 htier, not_not.1 hsel, hmode]
  · rw [hA, code_kernel, not_not.1 htier, not_not.1 hsel, eq_one_of_ne_zero f.mode hmode]

/-- The `TIER` code picks the entry it stands for. -/
theorem pickTier_cases {α : Type} (x p fast fastest : α) :
    (f.tier = 0 ∧ f.pickTier x p fast fastest = x) ∨ (f.tier = 1 ∧ f.pickTier x p fast fastest = p) ∨
      (f.tier = 2 ∧ f.pickTier x p fast fastest = fast) ∨
      (f.tier = 3 ∧ f.pickTier x p fast fastest = fastest) := by
  unfold Fields.pickTier
  split_ifs with h0 h1 h2
  · exact .inl ⟨h0, rfl⟩
  · exact .inr (.inl ⟨h1, rfl⟩)
  · exact .inr (.inr (.inl ⟨h2, rfl⟩))
  · exact .inr (.inr (.inr ⟨by bv_omega, rfl⟩))

theorem reencodes_tiered {x p fast fastest : Option (Kernel → Instr)}
    (hx : ∀ b ∈ x, ∀ k, encode (b k) = pack (BitVec.ofNat 8 op) k.code 0 0 0)
    (hp : ∀ b ∈ p, ∀ k, encode (b k) = pack (BitVec.ofNat 8 op) k.code 1 0 0)
    (hfast : ∀ b ∈ fast, ∀ k, encode (b k) = pack (BitVec.ofNat 8 op) k.code 2 0 0)
    (hfastest : ∀ b ∈ fastest, ∀ k, encode (b k) = pack (BitVec.ofNat 8 op) k.code 3 0 0) :
    Reencodes op f (f.tiered x p fast fastest) := by
  intro i h
  unfold Fields.tiered at h
  split at h
  case h_1 => cases h
  case h_2 build hpick =>
    obtain ⟨hmode, hsel, rfl⟩ := noModeNoSel_eq_ok h
    obtain ⟨htier, he⟩ | ⟨htier, he⟩ | ⟨htier, he⟩ | ⟨htier, he⟩ := pickTier_cases (f := f) x p fast fastest
    · rw [hx build (he.symm.trans hpick), code_kernel, htier, hmode, hsel]
    · rw [hp build (he.symm.trans hpick), code_kernel, htier, hmode, hsel]
    · rw [hfast build (he.symm.trans hpick), code_kernel, htier, hmode, hsel]
    · rw [hfastest build (he.symm.trans hpick), code_kernel, htier, hmode, hsel]

theorem reencodes_evaluator {p fast fastest : EvalFn → Instr}
    (hp : ∀ fn, encode (p fn) = pack (BitVec.ofNat 8 op) 0 1 0 fn.code)
    (hfast : ∀ fn, encode (fast fn) = pack (BitVec.ofNat 8 op) 0 2 0 fn.code)
    (hfastest : ∀ fn, encode (fastest fn) = pack (BitVec.ofNat 8 op) 0 3 0 fn.code) :
    Reencodes op f (f.evaluator p fast fastest) := by
  intro i h
  unfold Fields.evaluator at h
  split_ifs at h with hk hmode
  case pos => split at h <;> cases h
  split at h
  case h_1 => cases h
  case h_2 build hpick =>
    split at h
    case h_1 => cases h
    case h_2 fn hfn =>
      obtain rfl := Except.ok.inj h
      have hsel := code_of_evalFnOf f.sel fn hfn
      obtain ⟨-, he⟩ | ⟨htier, he⟩ | ⟨htier, he⟩ | ⟨htier, he⟩ :=
        pickTier_cases (f := f) none (some p) (some fast) (some fastest)
      · cases he.symm.trans hpick
      · obtain rfl := Option.some.inj (he.symm.trans hpick)
        rw [hp, not_not.1 hk, htier, not_not.1 hmode, hsel]
      · obtain rfl := Option.some.inj (he.symm.trans hpick)
        rw [hfast, not_not.1 hk, htier, not_not.1 hmode, hsel]
      · obtain rfl := Option.some.inj (he.symm.trans hpick)
        rw [hfastest, not_not.1 hk, htier, not_not.1 hmode, hsel]

theorem reencodes_constant {build : Kernel → ConstName → Instr}
    (hbuild : ∀ k id, encode (build k id) = pack (BitVec.ofNat 8 op) k.code 0 0 id.code) :
    Reencodes op f (f.constant build) := by
  intro i h
  unfold Fields.constant at h
  split_ifs at h with htier hmode
  split at h
  case h_1 => cases h
  case h_2 id hid =>
    split_ifs at h with hwf
    obtain rfl := Except.ok.inj h
    rw [hbuild, code_kernel, code_of_constNameOf f.sel id hid, not_not.1 htier, not_not.1 hmode]

/-! ## The map -/

/-- Every row of the map, by its shape (`30_encoding.md` R66). -/
theorem reencodes_decodeOp (f : Fields) : Reencodes f.op.toNat f f.decodeOp := by
  unfold Fields.decodeOp
  generalize f.op.toNat = op
  split
  any_goals
    with_reducible apply reencodes_plain
    exact fun _ => rfl
  any_goals
    with_reducible apply reencodes_fixedKernel
    rfl
  any_goals
    with_reducible apply reencodes_evaluator
    all_goals exact fun _ => rfl
  any_goals
    with_reducible apply reencodes_tiered
    all_goals rintro _ ⟨⟩ _ <;> rfl
  · exact reencodes_shift (fun _ => rfl) fun _ => rfl
  · exact reencodes_constant fun _ _ => rfl
  · exact fun _ h => nomatch h

/-- A word that decodes is the word of the instruction it decodes to (`30_encoding.md` R61, R67). -/
theorem encode_of_decode {w : Word} {i : Instr} (h : decode w = .ok i) : encode i = w := by
  unfold decode at h
  split_ifs at h with hzero
  have hfields := reencodes_decodeOp (fieldsOf w) i h
  rw [BitVec.ofNat_toNat, BitVec.setWidth_eq] at hfields
  exact hfields.trans (pack_fieldsOf (not_not.1 hzero))

end Sys2Proof.DecodeProofs

/-! # Ports and halves of ports that are ignored (O14, O15) -/

namespace Sys2Proof.IgnoredPortProofs

open Sys2Proof
open Sys2Proof.Machine
open Sys2Proof.Claims
open Sys2Proof.ReadProofs
open Sys2Proof.DecodeProofs

/-! ## Operand classes -/

/-- The operand class of an opcode, by the opcode alone (`30_encoding.md` R61, R66). -/
def operandClass : Nat → OperandClass
  | 0x2E => .n
  | 0x02 | 0x10 | 0x13 | 0x28 | 0x30 | 0x31 | 0x33 | 0x34 | 0x40 | 0x41 | 0x42 | 0x43 | 0x44 | 0x45 | 0x46
  | 0x47 | 0x60 | 0x74 | 0x84 => .b
  | 0x11 | 0x48 | 0x49 => .t
  | _ => .u

theorem operandClass_of_mem_opcodeMap : ∀ row ∈ opcodeMap, operandClass row.op = row.cls := by decide

/-- The ports an operand class does not name are not read. -/
def covers : OperandClass → OperandForms → Bool
  | .n, forms => forms.a.isNone && forms.b.isNone && forms.c.isNone
  | .u, forms => forms.b.isNone && forms.c.isNone
  | .b, forms => forms.c.isNone
  | .t, _ => true

/-- The class of an instruction's opcode names every port the instruction reads. -/
theorem covers_operandClass (i : Instr) :
    covers (operandClass (opField (encode i))) (operandForms i) = true := by
  cases i with
  | qmul30 | fma30 | widen | narrow => rfl
  | polyP fn | polyF fn | polyFF fn | lutrdP fn | lutrdF fn | lutrdFF fn => cases fn <;> rfl
  | const k id => cases k <;> rcases id with c | c <;> cases c <;> rfl
  | _ k => cases k <;> rfl

theorem forall_mem_of_isNone {form : Option Kernel} {P : Kernel → Prop} (h : form.isNone = true) :
    ∀ k ∈ form, P k := by
  obtain rfl := Option.isNone_iff_eq_none.1 h
  exact fun _ hk => nomatch hk

theorem setWidth_eq_of_eq {p q : Port} (h : p = q) (form : Option Kernel) :
    ∀ k ∈ form, p.setWidth k.width = q.setWidth k.width :=
  fun _ _ => h ▸ rfl

/-- Commands that agree on the ports of a class agree on what an instruction of that class reads. -/
theorem agreeOnReads_of_agreeOn {i : Instr} {cls : OperandClass} {s s' : State} {c d : Command}
    {rest rest' : List HostEvent} (hrom : s.rom = s'.rom) (hcovers : covers cls (operandForms i) = true)
    (hagree : agreeOn cls c d) : AgreeOnReads i (accept c rest s) (accept d rest' s') := by
  cases cls with
  | n =>
    simp only [covers, Bool.and_eq_true] at hcovers
    obtain ⟨⟨ha, hb⟩, hc⟩ := hcovers
    exact ⟨hrom, forall_mem_of_isNone ha, forall_mem_of_isNone hb, forall_mem_of_isNone hc⟩
  | u =>
    simp only [covers, Bool.and_eq_true] at hcovers
    obtain ⟨hb, hc⟩ := hcovers
    exact ⟨hrom, setWidth_eq_of_eq hagree _, forall_mem_of_isNone hb, forall_mem_of_isNone hc⟩
  | b =>
    obtain ⟨ha, hb⟩ := hagree
    exact ⟨hrom, setWidth_eq_of_eq ha _, setWidth_eq_of_eq hb _, forall_mem_of_isNone hcovers⟩
  | t =>
    obtain ⟨ha, hb, hc⟩ := hagree
    exact ⟨hrom, setWidth_eq_of_eq ha _, setWidth_eq_of_eq hb _, setWidth_eq_of_eq hc _⟩

/-- Settles O14: the word decodes to an instruction of the row's opcode, and the ports its class leaves out
are none of its operands. -/
theorem unnamedPortsAreIgnored : Obligations.UnnamedPortsAreIgnored := by
  intro s s' c d rest rest' row hrun hrun' hrom hhost hhost' hword hrow hallows hagree
  refine answerAlike_of_agreeOnReads hrun hrun' hhost hhost' hword fun i hdec => ?_
  obtain ⟨hop, -⟩ := hallows
  have hcovers := covers_operandClass i
  rw [encode_of_decode hdec, hop, operandClass_of_mem_opcodeMap row hrow] at hcovers
  exact agreeOnReads_of_agreeOn hrom hcovers hagree

/-! ## Upper halves -/

/-- No port is read beyond its lower half. -/
def readsLowHalves (forms : OperandForms) : Bool :=
  forms.a != some .k64 && forms.b != some .k64 && forms.c != some .k64

/-- The words of `10_state.md` R21 whose operands are 32 bits wide. -/
def lowHalfWord (w : Word) : Prop :=
  (kField w = 0 ∧ opField w ≠ 0x22) ∨ opField w ∈ [0x20, 0x21, 0x28, 0x29, 0x2A, 0x2B]

theorem readsLowHalves_of_lowHalfWord (i : Instr) :
    lowHalfWord (encode i) → readsLowHalves (operandForms i) = true := by
  unfold lowHalfWord
  cases i with
  | qmul30 | fma30 | widen | narrow | const _ _ | polyP _ | polyF _ | polyFF _ | lutrdP _ | lutrdF _
  | lutrdFF _ | fromint _ | fromf32 _ | ratio _ | ratio10 _ | ratio100 _ | ratio1000 _ => exact fun _ => rfl
  | _ k => cases k <;> decide

/-- Ports with one lower half give one operand at any width but the full one. -/
theorem setWidth_eq_of_low_eq {p q : Port} {form : Option Kernel} (h : p.setWidth 32 = q.setWidth 32)
    (hform : form ≠ some .k64) : ∀ k ∈ form, p.setWidth k.width = q.setWidth k.width
  | .k32, _ => h
  | .k64, hk => absurd hk hform

/-- Settles O15: a word of the list decodes to an instruction that reads lower halves alone. -/
theorem upperPortHalvesAreIgnored : Obligations.UpperPortHalvesAreIgnored := by
  intro s s' c d rest rest' hrun hrun' hrom hhost hhost' hword hlow ha hb hc
  refine answerAlike_of_agreeOnReads hrun hrun' hhost hhost' hword fun i hdec => ?_
  have hreads := readsLowHalves_of_lowHalfWord i ((encode_of_decode hdec).symm ▸ hlow)
  simp only [readsLowHalves, Bool.and_eq_true, bne_iff_ne] at hreads
  obtain ⟨⟨hformA, hformB⟩, hformC⟩ := hreads
  exact ⟨hrom, setWidth_eq_of_low_eq ha hformA, setWidth_eq_of_low_eq hb hformB,
    setWidth_eq_of_low_eq hc hformC⟩

end Sys2Proof.IgnoredPortProofs

/-! # Runs of the unit: one response for each command, in order (O13, O17, O18) -/

namespace Sys2Proof.RunProofs

open Sys2Proof
open Sys2Proof.Machine
open Sys2Proof.Claims
open Sys2Proof.ReadProofs

/-! ## One step of a run -/

theorem run_zero (s : State) : Host.Core.run Sys2Proof.core 0 s = .next s := rfl

theorem run_succ {s t : State} (h : step s = .next t) (n : Nat) :
    Host.Core.run Sys2Proof.core (n + 1) s = Host.Core.run Sys2Proof.core n t := by
  have hcore : Sys2Proof.core.step s = .next t := h
  simp only [Host.Core.run, hcore]

/-- A command is answered in the step that takes it, with one response, whose code is the latch after the
step (`20_memory.md` R48, `60_exceptions.md` R300, R304). -/
theorem step_command_delivers {s : State} {c : Command} {rest : List HostEvent}
    (hhost : s.host = .command c :: rest) :
    ∃ t v, step s = .next t ∧ t.host = rest ∧ t.rom = s.rom ∧
      t.responses = s.responses ++ [{ flt := t.flt, res := v }] := by
  rw [step_command hhost]
  obtain ⟨-, h⟩ | ⟨hrun, v, h⟩ | ⟨-, f, -, h⟩ := execCommand_cases (accept c rest s)
  case inl => exact ⟨_, 0, h, rfl, rfl, rfl⟩
  case inr.inl => exact ⟨_, v, h, rfl, rfl, by simp [← hrun]⟩
  case inr.inr => exact ⟨_, 0, h, rfl, rfl, rfl⟩

/-! ## Every command gets one response -/

/-- A run over the host's whole list, by induction on that list: a command adds one response, a reset
none. -/
theorem run_answers_commandsOf (events : List HostEvent) (s : State) (hhost : s.host = events) :
    ∃ (u : State) (rs : List Response),
      Host.Core.run Sys2Proof.core events.length s = .next u ∧ u.host = [] ∧ u.rom = s.rom ∧
        u.responses = s.responses ++ rs ∧ rs.length = (commandsOf events).length := by
  induction events generalizing s with
  | nil => exact ⟨s, [], run_zero s, hhost, rfl, (List.append_nil _).symm, rfl⟩
  | cons event rest ih =>
    cases event with
    | command c =>
      obtain ⟨t, v, hstep, hrest, hrom, hresp⟩ := step_command_delivers hhost
      obtain ⟨u, rs, hrun, hdone, hurom, huresp, hlen⟩ := ih t hrest
      refine ⟨u, { flt := t.flt, res := v } :: rs, (run_succ hstep _).trans hrun, hdone,
        hurom.trans hrom, ?_, congrArg (· + 1) hlen⟩
      rw [huresp, hresp, List.append_assoc, List.singleton_append]
    | reset lost =>
      obtain ⟨u, rs, hrun, hdone, hurom, huresp, hlen⟩ := ih (applyReset rest s) rfl
      exact ⟨u, rs, (run_succ (step_reset hhost) _).trans hrun, hdone, hurom, huresp, hlen⟩

/-- Settles O17, by induction on the host's list. -/
theorem everyCommandGetsOneResponse : Obligations.EveryCommandGetsOneResponse :=
  fun s => run_answers_commandsOf s.host s rfl

/-! ## A response depends on the command and the ROM -/

/-- Two running units with one ROM answer one command alike: they agree on whatever its instruction reads. -/
theorem answerAlike_of_same_command {s s' : State} {c : Command} {rest rest' : List HostEvent}
    (hrun : s.flt = .none) (hrun' : s'.flt = .none) (hrom : s.rom = s'.rom)
    (hhost : s.host = .command c :: rest) (hhost' : s'.host = .command c :: rest') : answerAlike s s' :=
  answerAlike_of_agreeOnReads hrun hrun' hhost hhost' rfl
    fun _ _ => ⟨hrom, fun _ _ => rfl, fun _ _ => rfl, fun _ _ => rfl⟩

/-- Settles O13: the running case by what an instruction reads, the halted case by the halted response. -/
theorem responseDependsOnCommandAndRom : Obligations.ResponseDependsOnCommandAndRom := by
  intro s s' c rest rest' hhost hhost'
  refine ⟨fun hrun hrun' hrom => answerAlike_of_same_command hrun hrun' hrom hhost hhost', fun hhalt => ?_⟩
  exact ⟨_, (step_command hhost).trans (execCommand_halted hhalt), rfl⟩

/-! ## A stream without faults -/

/-- A running unit answers a command with what the command answers alone (`20_memory.md` R47), and the code
of that answer is the latch after it. -/
theorem step_of_soloAnswers {s : State} {c : Command} {r : Response} {rest : List HostEvent}
    (hrun : s.flt = .none) (hhost : s.host = .command c :: rest) (hsolo : soloAnswers s.rom c r) :
    ∃ t, step s = .next t ∧ t.flt = r.flt ∧ t.rom = s.rom ∧ t.host = rest ∧
      t.responses = s.responses ++ [r] := by
  obtain ⟨alone, halone, hr⟩ := hsolo
  obtain ⟨t, v, hstep, hrest, hrom, hresp⟩ := step_command_delivers hhost
  obtain ⟨r', t', alone', hstep', halone', hr', hralone, -⟩ :
      answerAlike s (soloUnit s.rom c) := answerAlike_of_same_command hrun rfl rfl hhost rfl
  obtain rfl : t = t' := Host.Outcome.next.inj (hstep.symm.trans hstep')
  obtain rfl : alone = alone' := Host.Outcome.next.inj (halone.symm.trans halone')
  obtain rfl : r = r' := List.singleton_inj.1 (hr.symm.trans hralone)
  have hcode : r = { flt := t.flt, res := v } := by
    simpa using hr'.symm.trans hresp
  exact ⟨t, hstep, (congrArg Response.flt hcode).symm, hrom, hrest, hr'⟩

/-- Settles O18, by induction on the pairing of commands and responses: a response without a fault code
leaves the unit running, so the next command is answered as alone too. -/
theorem streamIsAnsweredCommandByCommand : Obligations.StreamIsAnsweredCommandByCommand := by
  intro s cs rs hrun hhost hsolo hfine
  generalize hrom : s.rom = rom at hsolo
  induction hsolo generalizing s with
  | nil => exact ⟨s, run_zero s, hrun, (List.append_nil _).symm⟩
  | @cons c r cs rs hc _ ih =>
    obtain ⟨hr, hrs⟩ := List.forall_mem_cons.1 hfine
    obtain ⟨t, hstep, hflt, htrom, hrest, hresp⟩ := step_of_soloAnswers hrun hhost (hrom ▸ hc)
    obtain ⟨u, hu, hurun, huresp⟩ := ih t (hflt.trans hr) hrest hrs (htrom.trans hrom)
    refine ⟨u, (run_succ hstep _).trans hu, hurun, ?_⟩
    rw [huresp, hresp, List.append_assoc, List.singleton_append]

end Sys2Proof.RunProofs

/-! # The instruction `CONST` (O32) -/

namespace Sys2Proof.ConstInstrProofs

open Sys2Proof
open Sys2Proof.Machine
open Sys2Proof.Claims
open Sys2Proof.ConstantProofs

/-- The word of `CONST` with a kernel and an id, every other field zero (`30_encoding.md` R61, R66). -/
def constWord (k : Kernel) (id : Nat) : Word := BitVec.ofNat 32 (0x2E + k.code.toNat * 2 ^ 8 + id * 2 ^ 12)

theorem decode_constWord_kernel (k : Kernel) (c : KConst) :
    decode (constWord k (constId c)) = .ok (.const k (.kernel c)) := by
  cases k <;> cases c <;> rfl

theorem decode_constWord_s230 (c : S230Const) :
    decode (constWord .k32 (s230Entry c).1) = .ok (.const .k32 (.s230 c)) := by
  cases c <;> rfl

theorem exec_const_kernel (k : Kernel) (c : KConst) (s : State) :
    exec (.const k (.kernel c)) s = .next (completed (BitVec.ofInt 64 (constInt k c)) s) := by
  rw [← signedResult_constRaw]
  rfl

theorem signedResult_constS230 (c : S230Const) :
    signedResult (constS230 c) = BitVec.ofInt 64 (s230Entry c).2 := by
  cases c <;> rfl

theorem exec_const_s230 (k : Kernel) (c : S230Const) (s : State) :
    exec (.const k (.s230 c)) s = .next (completed (BitVec.ofInt 64 (s230Entry c).2) s) := by
  rw [← signedResult_constS230]
  rfl

/-- Settles O32, by the rows of the two tables. -/
theorem constReturnsTheTabulatedPattern : Obligations.ConstReturnsTheTabulatedPattern :=
  ⟨fun c s => ⟨decode_constWord_kernel .k32 c, decode_constWord_kernel .k64 c,
      exec_const_kernel .k32 c s, exec_const_kernel .k64 c s⟩,
    fun c s => ⟨decode_constWord_s230 c, exec_const_s230 .k32 c s⟩⟩

end Sys2Proof.ConstInstrProofs

/-! # The decoder against the encoder and the opcode map (O1, O2, O3, O4, O6)

The decoder undoes the encoder, instruction by instruction; with the inverted decoder above, the words that
decode are the words of the well-formed instructions, and those are the words the opcode map lists
(`30_encoding.md` R61, R66, R69). -/

namespace Sys2Proof.EncodingProofs

open Sys2Proof
open Sys2Proof.Machine
open Sys2Proof.Claims
open Sys2Proof.DecodeProofs

/-! ## From an instruction to its word and back -/

/-- The fields of a packed word are those it was packed from, with `ZERO = 0` (`30_encoding.md` R61). -/
theorem fieldsOf_pack (op : BitVec 8) (k : BitVec 1) (tier : BitVec 2) (mode : BitVec 1) (sel : BitVec 5) :
    fieldsOf (pack op k tier mode sel) = { op, k, tier, mode, sel, zero := 0 } := by
  unfold fieldsOf pack
  congr 1
  all_goals
    ext i hi
    simp only [BitVec.getElem_extractLsb', BitVec.getLsbD_or, BitVec.getLsbD_shiftLeft, BitVec.getLsbD_setWidth]
    grind

/-- A packed word is decoded by the opcode map alone. -/
theorem decode_pack (op : BitVec 8) (k : BitVec 1) (tier : BitVec 2) (mode : BitVec 1) (sel : BitVec 5) :
    decode (pack op k tier mode sel) = Fields.decodeOp { op, k, tier, mode, sel, zero := 0 } := by
  unfold decode
  rw [fieldsOf_pack, if_neg (not_not.2 rfl)]

/-- The decoder undoes the encoder: each constructor's opcode leads to its own row of the map, whose checks
its word passes. -/
theorem decode_encode {i : Instr} (hwf : i.wf = true) : decode (encode i) = .ok i := by
  cases i with
  | qmul30 | fma30 | widen | narrow => exact decode_pack ..
  | polyP fn | polyF fn | polyFF fn | lutrdP fn | lutrdF fn | lutrdFF fn =>
    exact (decode_pack ..).trans (by cases fn <;> rfl)
  | const k id =>
    obtain c | c := id
    · exact (decode_pack ..).trans (by cases k <;> cases c <;> rfl)
    · obtain rfl : k = .k32 := of_decide_eq_true hwf
      exact (decode_pack ..).trans (by cases c <;> rfl)
  | _ k => exact (decode_pack ..).trans (by cases k <;> rfl)

/-- The one ill-formed instruction, `CONST` of an s2.30 id with `K = 1`, has a word that is refused
(`30_encoding.md` R65, R69). -/
theorem decode_encode_of_not_wf {i : Instr} (hwf : i.wf ≠ true) :
    decode (encode i) = .error .selField := by
  cases i with
  | const k id =>
    obtain c | c := id
    · exact absurd rfl hwf
    · cases k with
      | k32 => exact absurd rfl hwf
      | k64 => exact (decode_pack ..).trans (by cases c <;> rfl)
  | _ => exact absurd rfl hwf

/-- Only well-formed instructions are decoded: a word that decodes is its instruction's word, and the word of
an ill-formed one is refused. -/
theorem wf_of_decode {w : Word} {i : Instr} (h : decode w = .ok i) : i.wf = true := by
  by_contra hwf
  rw [← encode_of_decode h, decode_encode_of_not_wf hwf] at h
  cases h

/-- Settles O1, by the cases of the instruction. -/
theorem decodeEncodeRoundTrip : Obligations.DecodeEncodeRoundTrip :=
  fun _ => decode_encode

/-- Settles O2: the inverted decoder gives the word, and the words of ill-formed instructions do not decode. -/
theorem encodeDecodeRoundTrip : Obligations.EncodeDecodeRoundTrip :=
  fun _ _ h => ⟨wf_of_decode h, encode_of_decode h⟩

/-! ## The opcode map -/

/-- The fields with the numbers the map lists, and `ZERO = 0` (`30_encoding.md` R61). -/
def numberedFields (op k tier mode sel : Nat) : Fields where
  op := .ofNat 8 op
  k := .ofNat 1 k
  tier := .ofNat 2 tier
  mode := .ofNat 1 mode
  sel := .ofNat 5 sel
  zero := 0

theorem fieldsOf_eq_numberedFields {w : Word} (hzero : zeroField w = 0) :
    fieldsOf w = numberedFields (opField w) (kField w) (tierField w) (modeField w) (selField w) := by
  unfold fieldsOf numberedFields opField kField tierField modeField selField
  unfold zeroField at hzero
  congr 1
  all_goals
    apply BitVec.eq_of_toNat_eq
    simp [Nat.shiftRight_eq_div_pow]
  omega

/-- The word of an instruction has `ZERO = 0`, and the row of its opcode lists its other fields. -/
theorem legalWord_encode {i : Instr} (hwf : i.wf = true) : legalWord (encode i) := by
  unfold legalWord rowAllows
  cases i with
  | qmul30 | fma30 | widen | narrow => decide
  | polyP fn | polyF fn | polyFF fn | lutrdP fn | lutrdF fn | lutrdFF fn => cases fn <;> decide
  | const k id =>
    obtain c | c := id
    · cases k <;> cases c <;> decide
    · obtain rfl : k = .k32 := of_decide_eq_true hwf
      cases c <;> decide
  | _ k => cases k <;> decide

/-- Every choice of fields that a row of the map lists passes the decoder's checks for the row's opcode
(`30_encoding.md` R66, R67). -/
theorem decodeOp_isOk_of_mem_opcodeMap :
    ∀ row ∈ opcodeMap, ∀ k ∈ row.ks, ∀ tier ∈ row.tiers, ∀ mode ∈ row.modes,
      ∀ sel ∈ (if k = 0 then row.sels0 else row.sels1),
        (numberedFields row.op k tier mode sel).decodeOp.isOk = true := by
  decide

theorem decode_of_legalWord {w : Word} (h : legalWord w) : ∃ i, decode w = .ok i := by
  obtain ⟨hzero, row, hrow, hop, hk, htier, hmode, hsel⟩ := h
  have hfields := fieldsOf_eq_numberedFields hzero
  have hdec : decode w = (fieldsOf w).decodeOp := if_neg (not_not.2 (congrArg Fields.zero hfields))
  have hok := decodeOp_isOk_of_mem_opcodeMap row hrow _ hk _ htier _ hmode _ hsel
  rw [← hop, ← hfields, ← hdec] at hok
  cases hw : decode w with
  | ok i => exact ⟨i, rfl⟩
  | error e =>
    rw [hw] at hok
    cases hok

theorem decode_iff_legalWord (w : Word) : (∃ i, decode w = .ok i) ↔ legalWord w :=
  ⟨fun ⟨_, h⟩ => encode_of_decode h ▸ legalWord_encode (wf_of_decode h), decode_of_legalWord⟩

/-- Settles O3: a word that decodes is the word of an instruction, which the map lists, and the choices the map
lists pass the decoder's checks. -/
theorem decodesExactlyTheLegalWords : Obligations.DecodesExactlyTheLegalWords :=
  decode_iff_legalWord

/-- Settles O6: an illegal word does not decode and the latch takes the fault; a legal one is executed, and no
instruction raises `ILLEGAL_COMMAND`. -/
theorem illegalWordRaisesIllegalCommand : Obligations.IllegalWordRaisesIllegalCommand := by
  intro s c rest hrun hhost
  rw [step_command hhost]
  refine ⟨fun hillegal => ?_, fun hlegal t ht => ?_⟩
  · cases hdec : decode c.word with
    | ok i => exact absurd ((decode_iff_legalWord c.word).1 ⟨i, hdec⟩) hillegal
    | error e => exact execCommand_illegal (s := accept c rest s) hrun hdec
  · obtain ⟨i, hdec⟩ := decode_of_legalWord hlegal
    rw [execCommand_legal (s := accept c rest s) hrun hdec] at ht
    obtain ⟨v, h⟩ | ⟨-, h⟩ | ⟨_, _, -, -, h⟩ := exec_cases i (accept c rest s) <;>
      obtain rfl := Host.Outcome.next.inj (h.symm.trans ht)
    · simp [hrun]
    · simp
    · simp

/-- Settles O4, by decoding the nine words. -/
theorem writtenWordsDecode : Obligations.WrittenWordsDecode :=
  ⟨rfl, rfl, rfl, rfl, rfl, rfl, rfl, rfl, rfl⟩

end Sys2Proof.EncodingProofs


/-! # The normalization unit (O19, O20, O21)

The leading-zero count, the shifter over its three ranges of amounts, and the mantissa, each tied to the top
1 bit of the operand (`40_normalize.md` R100, R101, R102). -/

namespace Sys2Proof.NormalizeProofs

open Sys2Proof
open Sys2Proof.Machine
open Sys2Proof.Claims

/-! ## What the instructions complete with -/

theorem exec_clz (k : Kernel) (s : State) :
    exec (.clz k) s = .next (completed (BitVec.ofNat 64 (clz (opA k s))) s) := rfl

theorem exec_shrL (k : Kernel) (s : State) :
    exec (.shrL k) s = .next (completed (signedResult (shr .logical (opA k s) (wordB s).toInt)) s) := rfl

theorem exec_shrA (k : Kernel) (s : State) :
    exec (.shrA k) s = .next (completed (signedResult (shr .arithmetic (opA k s) (wordB s).toInt)) s) := rfl

theorem exec_norm (k : Kernel) (s : State) :
    exec (.norm k) s =
      .next (completed (BitVec.ofInt 32 (normExp k (opA k s)) ++ normMant (opA k s)) s) := rfl

/-! ## The top 1 bit -/

/-- A number that is not 0 has a top 1 bit. -/
theorem topBit_log2 {u : Nat} (h : u ≠ 0) : TopBit u (Nat.log2 u) :=
  (Nat.log2_eq_iff h).1 rfl

theorem ne_zero_of_topBit {u m : Nat} (h : TopBit u m) : u ≠ 0 :=
  ((Nat.two_pow_pos m).trans_le h.1).ne'

theorem lt_width_of_topBit {w m : Nat} {u : BitVec w} (h : TopBit u.toNat m) : m < w :=
  (Nat.pow_lt_pow_iff_right (by decide)).1 (h.1.trans_lt u.isLt)

theorem toNat_ne_zero {w : Nat} {u : BitVec w} (h : u ≠ 0) : u.toNat ≠ 0 :=
  fun hu => h (BitVec.eq_of_toNat_eq hu)

theorem msbIndex_of_topBit {w m : Nat} {u : BitVec w} (h : TopBit u.toNat m) : msbIndex u = m := by
  rw [msbIndex_of_ne_zero (ne_zero_of_topBit h), log2_eq_of_bounds h.1 h.2]

theorem msbIndex_zero (w : Nat) : msbIndex (0 : BitVec w) = -1 := by
  rw [msbIndex, clz_zero rfl]
  omega

/-- The count of leading zeros is the distance of the top 1 bit from the top of the width
(`40_normalize.md` R100). -/
theorem topBit_clz {w : Nat} {u : BitVec w} (h : u ≠ 0) : clz u < w ∧ TopBit u.toNat (w - 1 - clz u) := by
  have hu := toNat_ne_zero h
  have hlt := log2_lt_width hu
  rw [clz_of_ne_zero hu, show w - 1 - (w - 1 - Nat.log2 u.toNat) = Nat.log2 u.toNat by omega]
  exact ⟨by omega, topBit_log2 hu⟩

/-! ## The mantissa -/

/-- The scale that moves the top 1 bit to bit 30 puts the mantissa in `[2^30, 2^31)`
(`40_normalize.md` R102). -/
theorem mantissa_bounds {u m : Nat} (h : TopBit u m) :
    2 ^ 30 ≤ u * 2 ^ 30 / 2 ^ m ∧ u * 2 ^ 30 / 2 ^ m < 2 ^ 31 := by
  obtain ⟨hlo, hhi⟩ := h
  rw [Nat.le_div_iff_mul_le (by positivity), Nat.div_lt_iff_lt_mul (by positivity)]
  rw [Nat.pow_succ] at hhi
  omega

/-- The shift that moves the top 1 bit to bit 30: to the right from above, dropping low bits, to the left from
below, losing no bit (`40_normalize.md` R102). -/
theorem toNat_shr_of_topBit {w m : Nat} {u : BitVec w} (hw : 32 ≤ w) (h : TopBit u.toNat m) :
    (shr .logical u ((m : Int) - 30)).toNat = u.toNat * 2 ^ 30 / 2 ^ m := by
  have hm : m < w := lt_width_of_topBit h
  rcases Nat.lt_or_ge m 30 with hbelow | habove
  · obtain ⟨d, hd⟩ := Nat.exists_eq_add_of_le' hbelow.le
    have hscale : u.toNat * 2 ^ 30 / 2 ^ m = u.toNat * 2 ^ d := by
      rw [hd, Nat.pow_add, ← Nat.mul_assoc, Nat.mul_div_cancel _ (Nat.two_pow_pos m)]
    have hfits : u.toNat * 2 ^ d < 2 ^ w :=
      calc u.toNat * 2 ^ d < 2 ^ 31 := hscale ▸ (mantissa_bounds h).2
        _ ≤ 2 ^ w := Nat.pow_le_pow_right (by decide) (by omega)
    rw [shr_left _ u (by omega) (by omega), show (-((m : Int) - 30)).toNat = d by omega,
      BitVec.toNat_shiftLeft, Nat.shiftLeft_eq, Nat.mod_eq_of_lt hfits, hscale]
  · obtain ⟨d, rfl⟩ := Nat.exists_eq_add_of_le' habove
    rw [shr_logical_right u (by omega) (by omega), show (((d + 30 : Nat) : Int) - 30).toNat = d by omega,
      BitVec.toNat_ushiftRight, Nat.shiftRight_eq_div_pow, Nat.pow_add,
      Nat.mul_div_mul_right _ _ (Nat.two_pow_pos 30)]

theorem normMant_of_topBit {w m : Nat} {u : BitVec w} (hw : 32 ≤ w) (h : TopBit u.toNat m) :
    normMant u = BitVec.ofNat 32 (u.toNat * 2 ^ 30 / 2 ^ m) := by
  rw [normMant, msbIndex_of_topBit h, ← toNat_shr_of_topBit hw h, BitVec.ofNat_toNat]

/-- The mantissa of 0 is 0: its index -1 asks for a left shift, which keeps 0 (`40_normalize.md` R102). -/
theorem normMant_zero {w : Nat} (hw : 32 ≤ w) : normMant (0 : BitVec w) = 0 := by
  rw [normMant, msbIndex_zero, shr_left _ _ (by omega) (by decide)]
  simp

theorem le_width (k : Kernel) : 32 ≤ k.width := by
  cases k <;> decide

/-! ## The obligations -/

/-- Settles O19: the count is the width for 0 and the distance of the top 1 bit otherwise. -/
theorem clzCountsLeadingZeros : Obligations.ClzCountsLeadingZeros :=
  ⟨⟨rfl, rfl⟩, fun k s =>
    ⟨_, exec_clz k s, fun hzero => clz_zero (congrArg BitVec.toNat hzero), topBit_clz⟩⟩

/-- Settles O20, by the shifter's law for each of the three ranges of the amount. -/
theorem shiftByASignedAmount : Obligations.ShiftByASignedAmount := by
  refine ⟨⟨rfl, rfl⟩, rfl, rfl, fun k s => ?_⟩
  simp only [exec_shrL, exec_shrA, ← signedResult_eq]
  refine ⟨fun h0 hw => ?_, fun hw h0 => ?_, fun haway => ?_⟩
  · rw [shr_logical_right _ h0 hw, shr_arithmetic_right _ h0 hw]
    exact ⟨rfl, rfl⟩
  · rw [shr_left _ _ hw h0, shr_left _ _ hw h0]
    exact ⟨rfl, rfl⟩
  · rw [shr_away _ _ haway, shr_away _ _ haway, signedResult_zero]
    exact ⟨rfl, rfl⟩

/-- Settles O21: the exponent by the index of the top 1 bit, the mantissa by the shift that moves that bit to
bit 30. -/
theorem normPacksExponentAndMantissa : Obligations.NormPacksExponentAndMantissa := by
  refine ⟨⟨rfl, rfl⟩, fun k s => ⟨fun hzero => ?_, fun hne => ?_⟩⟩
  · rw [exec_norm, hzero, normMant_zero (le_width k), normExp, msbIndex_zero, Int.sub_eq_add_neg,
      Int.add_comm]
    rfl
  · have htop := topBit_log2 (toNat_ne_zero hne)
    obtain ⟨hlo, hhi⟩ := mantissa_bounds htop
    refine ⟨_, htop, hlo, hhi, ?_⟩
    rw [exec_norm, normMant_of_topBit (le_width k) htop, normExp, msbIndex_of_topBit htop]

end Sys2Proof.NormalizeProofs

/-! # The invariant of the unit's history (O10)

The ROM is legal, every response with a fault code has result 0, and a halted unit has reported its latch.
Every operation that delivers a response is one `deliver`, so one rule about it serves them all. -/

namespace Sys2Proof.InvariantProofs

open Sys2Proof
open Sys2Proof.Machine

/-! ## Responses -/

/-- A response with code 0 is honest, whatever its result. -/
theorem honest_of_flt_none (v : Port) : ({ flt := .none, res := v } : Response).honest :=
  fun hfault => absurd rfl hfault

/-- A response with result 0 is honest, whatever its code. -/
theorem honest_of_res_zero (f : FaultCode) : ({ flt := f, res := 0 } : Response).honest :=
  fun _ => rfl

/-! ## The operations on the state -/

/-- Delivering an honest response establishes the invariant, if on a halted unit it is the response of the
latch: nothing is asked of the latch before (`60_exceptions.md` R304). -/
theorem inv_deliver {r : Response} {s : State} (hrom : romWf s.rom = true)
    (hhistory : ∀ q ∈ s.responses, q.honest) (hr : r.honest)
    (hlatch : s.flt ≠ .none → r = { flt := s.flt, res := 0 }) : (deliver r s).Inv := by
  refine ⟨hrom, fun q hq => ?_, fun hhalted => ?_⟩
  · obtain hold | hnew := List.mem_append.1 hq
    · exact hhistory q hold
    · exact List.mem_singleton.1 hnew ▸ hr
  · rw [deliver_responses, deliver_flt, ← hlatch hhalted]
    exact List.getLast?_concat

/-- The invariant does not speak of the sampled command and of the host's list. -/
theorem inv_accept {s : State} (h : s.Inv) (c : Command) (rest : List HostEvent) : (accept c rest s).Inv := h

theorem inv_deliver_halted {s : State} (h : s.Inv) : (deliver { flt := s.flt, res := 0 } s).Inv := by
  obtain ⟨hrom, hhistory, -⟩ := h
  exact inv_deliver hrom hhistory (honest_of_res_zero _) fun _ => rfl

theorem inv_completed {s : State} (h : s.Inv) (hrun : s.flt = .none) (v : Port) : (completed v s).Inv := by
  obtain ⟨hrom, hhistory, -⟩ := h
  exact inv_deliver hrom hhistory (honest_of_flt_none v) fun hhalted => absurd hrun hhalted

theorem inv_latchFault {s : State} (h : s.Inv) (f : FaultCode) : (latchFault f s).Inv := by
  obtain ⟨hrom, hhistory, -⟩ := h
  exact inv_deliver hrom hhistory (honest_of_res_zero f) fun _ => rfl

theorem inv_applyReset {s : State} (h : s.Inv) (rest : List HostEvent) : (applyReset rest s).Inv := by
  obtain ⟨hrom, hhistory, -⟩ := h
  exact ⟨hrom, hhistory, fun hhalted => absurd rfl hhalted⟩

/-- Settles O10, by the inversion of a step: each of its five cases is an operation that keeps the
invariant. -/
theorem stepKeepsInvariant : Obligations.StepKeepsInvariant := by
  intro s t hinv hstep
  obtain ⟨-, rfl⟩ | ⟨_, rest, -, rfl⟩ | ⟨c, rest, -, ⟨-, rfl⟩ | ⟨hrun, v, rfl⟩ | ⟨-, f, -, rfl⟩⟩ :=
    step_cases hstep
  case inl => exact hinv
  case inr.inl => exact inv_applyReset hinv rest
  case inr.inr.inl => exact inv_deliver_halted (inv_accept hinv c rest)
  case inr.inr.inr.inl => exact inv_completed (inv_accept hinv c rest) hrun v
  case inr.inr.inr.inr => exact inv_latchFault (inv_accept hinv c rest) f

end Sys2Proof.InvariantProofs

/-! # The polynomial evaluator and the lookup table (O22, O23, O24)

The s2.30 product in the terms of the library, the row a legal evaluator's multiplexer selects, and the
evaluator's loop as a fold over that row (`41_poly_lut.md` R120 to R123, R130). -/

namespace Sys2Proof.EvaluatorProofs

open Sys2Proof
open Sys2Proof.Machine
open Sys2Proof.Claims

/-! ## s2.30 arithmetic -/

/-- 64 bits hold the product of two 32-bit integers exactly. -/
theorem toInt_signExtend_mul (a b : Word) :
    (a.signExtend 64 * b.signExtend 64).toInt = a.toInt * b.toInt := by
  have hlo : -2 ^ 62 ≤ a.toInt * b.toInt := BitVec.le_toInt_mul_toInt
  have hhi : a.toInt * b.toInt ≤ 2 ^ 62 := BitVec.toInt_mul_toInt_le
  rw [BitVec.toInt_mul, BitVec.toInt_signExtend_of_le (by decide), BitVec.toInt_signExtend_of_le (by decide)]
  exact Int.bmod_eq_of_le_mul_two (by omega) (by omega)

/-- The low bits of an integer's pattern are the pattern of the integer at the smaller width. -/
theorem setWidth_ofInt (z : Int) : (BitVec.ofInt 64 z).setWidth 32 = BitVec.ofInt 32 z := by
  apply BitVec.eq_of_toNat_eq
  rw [BitVec.toNat_setWidth, BitVec.toNat_ofInt, BitVec.toNat_ofInt]
  omega

theorem qmul30_eq (a b : Word) :
    qmul30 a b = ((a.signExtend 64 * b.signExtend 64).sshiftRight 30).setWidth 32 := by
  rw [BitVec.sshiftRight, setWidth_ofInt, toInt_signExtend_mul, Int.shiftRight_eq_div_pow]
  rfl

theorem fma30_eq (k acc c : Word) : fma30 k acc c = qmul30 k acc + c := by
  rw [fma30, BitVec.ofInt_add, BitVec.ofInt_toInt, BitVec.ofInt_toInt]

/-- A Horner step at 0 forgets the accumulator. -/
theorem fma30_zero_left (acc c : Word) : fma30 0 acc c = c := by
  have hproduct : qmul30 0 acc = 0 := by simp [qmul30]
  rw [fma30_eq, hproduct, zero_add]

/-! ## The evaluator's loop -/

/-- Over the coefficients of a row the loop is the fold of the Horner step. -/
theorem horner_eq_foldl {coef : Nat → Word} (k c : Word) (cs : List Word)
    (hcoef : ∀ i d, (c :: cs)[i]? = some d → coef i = d) :
    horner coef k cs.length = cs.foldl (fma30 k) c := by
  induction cs using List.reverseRecOn with
  | nil => exact hcoef 0 c rfl
  | append_singleton cs d ih =>
    have hinit : ∀ i e, (c :: cs)[i]? = some e → coef i = e := fun i e he =>
      hcoef i e (List.getElem?_append_left (l₂ := [d]) (List.getElem?_eq_some_iff.1 he).1 ▸ he)
    have hlast : coef (cs.length + 1) = d := hcoef _ d (by simp)
    rw [List.length_append, List.length_singleton, horner_succ, ih hinit, hlast, List.foldl_concat]

/-- At 0 the fold leaves the last coefficient of the row (`41_poly_lut.md` R123). -/
theorem getLast?_eq_foldl_fma30_zero (c : Word) (cs : List Word) :
    (c :: cs).getLast? = some (cs.foldl (fma30 0) c) := by
  induction cs generalizing c with
  | nil => rfl
  | cons d cs ih => rw [List.getLast?_cons_cons, ih, List.foldl_cons, fma30_zero_left]

/-! ## Row selection -/

theorem toInt_eq_toNat_of_nonneg {k : Word} (h : 0 ≤ k.toInt) : k.toInt = k.toNat := by
  rw [BitVec.toInt_eq_toNat_cond] at h ⊢
  omega

/-- The multiplexer of a legal row count selects the row by the top bits of the operand, clamped
(`41_poly_lut.md` R122). -/
theorem selects_rowOf {m : Nat} (hm : m = 1 ∨ m = 8 ∨ m = 16) (k : Word) : selects m k (rowOf m k) := by
  have hnat := toInt_eq_toNat_of_nonneg (k := k)
  obtain rfl | rfl | rfl := hm
  · refine ⟨Nat.one_pos, fun _ => rfl, fun _ => rfl, fun _ => rfl, fun h0 h1 => ?_⟩
    show 0 = _
    omega
  · have hrow : rowOf 8 k = (min 7 (max 0 (k.toInt / 2 ^ 27))).toNat := rfl
    rw [hrow]
    refine ⟨?_, ?_, ?_, ?_, ?_⟩ <;> omega
  · have hrow : rowOf 16 k = (min 15 (max 0 (k.toInt / 2 ^ 26))).toNat := rfl
    rw [hrow]
    refine ⟨?_, ?_, ?_, ?_, ?_⟩ <;> omega

/-- The operand 0 selects row 0. -/
theorem eq_zero_of_selects_zero {m r : Nat} (h : selects m 0 r) : r = 0 := by
  obtain ⟨-, -, -, -, hinside⟩ := h
  exact (hinside (by decide) (by decide)).trans (Nat.zero_div _)

/-- On a legal ROM the selected row is there, with a coefficient for every power up to the degree
(`41_poly_lut.md` R122, R127). -/
theorem exists_selected_row {rom : CoefRom} (h : romWf rom = true) (fn : EvalFn) (slot : Slot) (k : Word) :
    ∃ row, selects (evaluator rom fn slot).rowCount k (rowSel rom fn slot k) ∧
      (evaluator rom fn slot).coef[rowSel rom fn slot k]? = some row ∧
      row.length = (evaluator rom fn slot).degree + 1 := by
  have hlegal := evaluatorLegal_of_romWf h fn slot
  simp only [evaluatorLegal, Bool.and_eq_true] at hlegal
  obtain ⟨⟨hwf, -⟩, -⟩ := hlegal
  obtain ⟨-, -, hcount, hrows, hlength⟩ := (evaluatorWf_iff _).1 hwf
  have hsel : selects (evaluator rom fn slot).rowCount k (rowSel rom fn slot k) := selects_rowOf hcount k
  have hlt : rowSel rom fn slot k < (evaluator rom fn slot).coef.length := hrows ▸ hsel.1
  exact ⟨_, hsel, List.getElem?_eq_getElem hlt, hlength _ (List.getElem_mem hlt)⟩

/-- The evaluator is the fold of the Horner step over the selected row (`41_poly_lut.md` R123). -/
theorem poly_eq_foldl {rom : CoefRom} {fn : EvalFn} {slot : Slot} {k c : Word} {cs : List Word}
    (hrow : (evaluator rom fn slot).coef[rowSel rom fn slot k]? = some (c :: cs))
    (hlength : cs.length = (evaluator rom fn slot).degree) :
    poly rom fn slot k = cs.foldl (fma30 k) c := by
  rw [poly, ← hlength]
  exact horner_eq_foldl k c cs fun _ _ => romRead_inside hrow

/-! ## What the instructions do -/

theorem lutrdNext_of_le {slot : Slot} {fn : EvalFn} {s : State}
    (h : (wordB s).toNat ≤ (evaluator s.rom fn slot).degree) :
    lutrdNext slot fn s = completed
      ((romRead s.rom fn slot (rowSel s.rom fn slot (wordA s)) (wordB s).toNat).signExtend 64) s :=
  if_neg (Nat.not_lt.2 h)

theorem lutrdNext_of_lt {slot : Slot} {fn : EvalFn} {s : State}
    (h : (evaluator s.rom fn slot).degree < (wordB s).toNat) :
    lutrdNext slot fn s = latchFault .romIndex s :=
  if_pos h

/-- An instruction that runs the evaluator of a slot is `POLY` of that slot. -/
theorem polyTier_of_runPoly {i : EvalFn → Instr} {slot : Slot}
    (hexec : ∀ fn s, exec (i fn) s = runPoly slot fn s) : PolyTier i slot := by
  intro fn s hrom
  obtain ⟨row, hsel, hrow, hlength⟩ := exists_selected_row hrom fn slot (wordA s)
  obtain ⟨c, cs, rfl⟩ := List.exists_cons_of_length_eq_add_one hlength
  have hcs : cs.length = (evaluator s.rom fn slot).degree := Nat.succ.inj hlength
  have hpoly : exec (i fn) s = .next (completed ((cs.foldl (fma30 (wordA s)) c).signExtend 64) s) := by
    rw [hexec, runPoly, poly_eq_foldl hrow hcs, signedResult_eq, complete_eq]
  refine ⟨⟨_, c, cs, hsel, hrow, hcs, hpoly⟩, fun hzero => ?_⟩
  rw [hzero] at hsel hrow hpoly
  rw [eq_zero_of_selects_zero hsel] at hrow
  exact ⟨_, _, hrow, getLast?_eq_foldl_fma30_zero c cs, hpoly⟩

/-- An instruction that reads the lookup table of a slot is `LUTRD` of that slot. -/
theorem lutrdTier_of_lutrdNext {i : EvalFn → Instr} {slot : Slot}
    (hexec : ∀ fn s, exec (i fn) s = .next (lutrdNext slot fn s)) : LutrdTier i slot := by
  intro fn s hrom
  refine ⟨fun hle => ?_, fun hlt => ?_⟩
  · obtain ⟨row, hsel, hrow, hlength⟩ := exists_selected_row hrom fn slot (wordA s)
    have hcoef := List.getElem?_eq_getElem (l := row) (i := (wordB s).toNat) (by omega)
    refine ⟨_, row, _, hsel, hrow, hcoef, ?_⟩
    rw [hexec, lutrdNext_of_le hle, romRead_inside hrow hcoef]
  · rw [hexec, lutrdNext_of_lt hlt]

/-! ## The obligations -/

/-- Settles O22, by the product and the Horner step in the terms of the library. -/
theorem s230ProductIsWidenedAndShifted : Obligations.S230ProductIsWidenedAndShifted := by
  refine ⟨rfl, rfl, fun s => ?_⟩
  dsimp only
  rw [← qmul30_eq, ← fma30_eq]
  exact ⟨rfl, rfl⟩

/-- Settles O23: the words by the functions' numbers, the values by the fold over the selected row. -/
theorem polyIsHornerOnTheSelectedRow : Obligations.PolyIsHornerOnTheSelectedRow := by
  refine ⟨fun fn => ?_, fun fn => ?_, fun fn => ?_, polyTier_of_runPoly fun _ _ => rfl,
    polyTier_of_runPoly fun _ _ => rfl, polyTier_of_runPoly fun _ _ => rfl⟩
  all_goals cases fn <;> rfl

/-- Settles O24: the words by the functions' numbers, the two sides of the degree by the read inside the
selected row and the fault. -/
theorem lutrdReadsACoefficientOrFaults : Obligations.LutrdReadsACoefficientOrFaults := by
  refine ⟨fun fn => ?_, fun fn => ?_, fun fn => ?_, lutrdTier_of_lutrdNext fun _ _ => rfl,
    lutrdTier_of_lutrdNext fun _ _ => rfl, lutrdTier_of_lutrdNext fun _ _ => rfl⟩
  all_goals cases fn <;> rfl

end Sys2Proof.EvaluatorProofs

/-! # Core arithmetic and the exact division behind it (O35, O36, O37, O43)

The wrapping operations in the terms of the library, the double-width product, the remainder in the kernel's
range, and the exact quotient where it fits (`42_convert_arith.md` R157 to R162, `43_div_root_rcp.md` R181). -/

namespace Sys2Proof.ArithmeticProofs

open Sys2Proof
open Sys2Proof.Machine
open Sys2Proof.Claims

/-! ## Widths and ranges -/

/-- Narrowing wraps: the low bits of an integer's pattern are the integer's pattern at the smaller width. -/
theorem setWidth_ofInt_of_le {v w : Nat} (h : v ≤ w) (z : Int) :
    (BitVec.ofInt w z).setWidth v = BitVec.ofInt v z := by
  rw [← BitVec.signExtend_eq_setWidth_of_le _ h, ← BitVec.toInt_inj, BitVec.toInt_signExtend, Nat.min_eq_left h,
    BitVec.toInt_ofInt, BitVec.toInt_ofInt, Int.bmod_bmod_of_dvd (pow_dvd_pow 2 h)]

theorem width_pos (k : Kernel) : 0 < k.width := by cases k <;> decide

/-- An integer in the kernel's signed range reaches the result port as it is. -/
theorem signedResult_ofInt {k : Kernel} {z : Int} (hlo : -2 ^ (k.width - 1) ≤ z) (hhi : z < 2 ^ (k.width - 1)) :
    signedResult (BitVec.ofInt k.width z) = BitVec.ofInt 64 z := by
  rw [signedResult_eq, BitVec.signExtend, BitVec.toInt_ofInt_eq_self (width_pos k) hlo hhi]

theorem toInt_minRaw (k : Kernel) : (minRaw k).toInt = -(2 ^ (k.width - 1)) := by cases k <;> rfl

/-! ## What the instructions complete with -/

theorem exec_add (k : Kernel) (s : State) :
    exec (.add k) s = .next (completed (signedResult (addK k (opA k s) (opB k s))) s) := rfl

theorem exec_sub (k : Kernel) (s : State) :
    exec (.sub k) s = .next (completed (signedResult (subK k (opA k s) (opB k s))) s) := rfl

theorem exec_neg (k : Kernel) (s : State) :
    exec (.neg k) s = .next (completed (signedResult (negK k (opA k s))) s) := rfl

theorem exec_mul (k : Kernel) (s : State) :
    exec (.mul k) s = .next (completed (signedResult (mulK k (opA k s) (opB k s))) s) := rfl

theorem exec_mod (k : Kernel) (s : State) :
    exec (.mod k) s = .next (completed (signedResult (modK k (opA k s) (opB k s))) s) := rfl

theorem exec_divX (k : Kernel) (s : State) :
    exec (.divX k) s = .next (completed (signedResult (divExact k (opA k s) (opB k s))) s) := rfl

/-! ## The product -/

/-- Double width holds the product of two signed integers exactly. -/
theorem toInt_signExtend_mul_double {w : Nat} (hw : 0 < w) (a b : BitVec w) :
    (a.signExtend (2 * w) * b.signExtend (2 * w)).toInt = a.toInt * b.toInt := by
  have hlo : -2 ^ (w * 2 - 2) ≤ a.toInt * b.toInt := BitVec.le_toInt_mul_toInt
  have hhi : a.toInt * b.toInt ≤ 2 ^ (w * 2 - 2) := BitVec.toInt_mul_toInt_le
  have hpow : ((2 ^ (2 * w) : Nat) : Int) = 4 * 2 ^ (w * 2 - 2) := by
    rw [show 2 * w = 2 + (w * 2 - 2) by omega, pow_add]
    push_cast
    rfl
  have hpos : (0 : Int) < 2 ^ (w * 2 - 2) := by positivity
  rw [BitVec.toInt_mul, BitVec.toInt_signExtend_of_le (by omega), BitVec.toInt_signExtend_of_le (by omega)]
  exact Int.bmod_eq_of_le_mul_two (by omega) (by omega)

/-- `mul_K` is the double-width product, shifted right arithmetically and narrowed
(`42_convert_arith.md` R141). -/
theorem mulK_eq (k : Kernel) (a b : Raw k) :
    mulK k a b =
      ((a.signExtend (2 * k.width) * b.signExtend (2 * k.width)).sshiftRight k.frac).setWidth k.width := by
  rw [BitVec.sshiftRight, setWidth_ofInt_of_le (by omega), toInt_signExtend_mul_double (width_pos k),
    Int.shiftRight_eq_div_pow, mulK]
  norm_cast

/-- A product that loses no bits and fits is the integer product over `2^F`. -/
theorem toInt_mulK_mul {k : Kernel} {a b : Raw k} (hdvd : (2 : Int) ^ k.frac ∣ a.toInt * b.toInt)
    (hlo : -(2 ^ (k.width - 1)) * 2 ^ k.frac ≤ a.toInt * b.toInt)
    (hhi : a.toInt * b.toInt < 2 ^ (k.width - 1) * 2 ^ k.frac) :
    (mulK k a b).toInt * 2 ^ k.frac = a.toInt * b.toInt := by
  have hpos : (0 : Int) < 2 ^ k.frac := by positivity
  rw [mulK, BitVec.toInt_ofInt_eq_self (width_pos k) (Int.le_ediv_of_mul_le hpos hlo)
    (Int.ediv_lt_of_lt_mul hpos hhi), Int.ediv_mul_cancel hdvd]

/-! ## The remainder -/

/-- The truncated remainder takes no sign but the dividend's (`42_convert_arith.md` R161). -/
theorem tmod_nonpos {a : Int} (b : Int) (h : a ≤ 0) : a.tmod b ≤ 0 := by
  have hneg := Int.tmod_nonneg b (Int.neg_nonneg_of_nonpos h)
  rw [Int.neg_tmod] at hneg
  omega

theorem natAbs_tmod_lt {b : Int} (a : Int) (h : b ≠ 0) : (a.tmod b).natAbs < b.natAbs := by
  rw [Int.natAbs_tmod]
  exact Nat.mod_lt _ (Int.natAbs_pos.2 h)

/-! ## The exact quotient -/

theorem badDivisor_eq_false {k : Kernel} {b : Raw k} (hzero : b.toInt ≠ 0)
    (hmin : b.toInt ≠ -(2 ^ (k.width - 1))) : badDivisor k b = false := by
  have hb : b ≠ 0 := fun h => hzero (by rw [h]; exact BitVec.toInt_zero)
  have hbmin : b ≠ minRaw k := fun h => hmin (by rw [h, toInt_minRaw])
  rw [badDivisor, decide_eq_false hb, decide_eq_false hbmin, Bool.or_false]

/-- The sign of a truncated quotient is set apart from its magnitude, as the divider computes it. -/
theorem tdiv_eq_ite_sign {p q : Int} (hq : q ≠ 0) :
    p.tdiv q = if decide (p < 0) = decide (q < 0) then ((p.natAbs / q.natAbs : Nat) : Int)
      else -((p.natAbs / q.natAbs : Nat) : Int) := by
  rw [← tdiv_eq_tdiv, tdiv]
  rcases lt_trichotomy p 0 with hp | rfl | hp
  · rcases hq.lt_or_gt with hq | hq
    · simp [Int.sign_eq_neg_one_of_neg, hp, hq]
    · simp [Int.sign_eq_neg_one_of_neg, Int.sign_eq_one_of_pos, hp, hq, hq.le]
  · simp
  · rcases hq.lt_or_gt with hq | hq
    · simp [Int.sign_eq_neg_one_of_neg, Int.sign_eq_one_of_pos, hp, hq, hp.le]
    · simp [Int.sign_eq_one_of_pos, hp, hq, hp.not_gt, hq.not_gt]

/-- The K64 divider gives the truncated quotient when that needs no more than 64 bits
(`43_div_root_rcp.md` R181). -/
theorem divExact64_eq {a b : Raw .k64} (hb : b.toInt ≠ 0)
    (hfits : ((a.toInt * 2 ^ 32).tdiv b.toInt).natAbs < 2 ^ 64) :
    divExact64 a b = BitVec.ofInt 64 ((a.toInt * 2 ^ 32).tdiv b.toInt) := by
  have hscaled : (a.toInt * 2 ^ 32).natAbs = a.toInt.natAbs * 2 ^ 32 := by omega
  have hneg : (a.toInt * 2 ^ 32 < 0) = (a.toInt < 0) := by simp only [eq_iff_iff]; omega
  have hquot : ((a.toInt * 2 ^ 32).tdiv b.toInt).natAbs = a.toInt.natAbs * 2 ^ 32 / b.toInt.natAbs := by
    rw [Int.natAbs_tdiv, hscaled]
    rfl
  have hsmall : ¬ b.toInt.natAbs ≤ a.toInt.natAbs / 2 ^ 32 := by
    rw [hquot, Nat.div_lt_iff_lt_mul (Int.natAbs_pos.2 hb)] at hfits
    omega
  rw [divExact64, if_neg hsmall, tdiv_eq_ite_sign hb, hscaled]
  simp only [hneg]
  split <;> rfl

/-- Exact division by a divisor other than 0 and `MIN` is the truncated quotient, where it fits
(`43_div_root_rcp.md` R181). -/
theorem divExact_eq {k : Kernel} {a b : Raw k} (hzero : b.toInt ≠ 0) (hmin : b.toInt ≠ -(2 ^ (k.width - 1)))
    (hfits : k = .k64 → ((a.toInt * 2 ^ k.frac).tdiv b.toInt).natAbs < 2 ^ 64) :
    divExact k a b = BitVec.ofInt k.width ((a.toInt * 2 ^ k.frac).tdiv b.toInt) := by
  unfold divExact
  rw [if_neg (Bool.eq_false_iff.1 (badDivisor_eq_false hzero hmin))]
  cases k with
  | k32 => exact congrArg (BitVec.ofInt 32) (tdiv_eq_tdiv _ _)
  | k64 => exact divExact64_eq hzero (hfits rfl)

/-- Dividing a product that lost no bits by one factor gives the other. -/
theorem divExact_mulK {k : Kernel} {a b : Raw k} (hzero : b.toInt ≠ 0) (hmin : b.toInt ≠ -(2 ^ (k.width - 1)))
    (hexact : (mulK k a b).toInt * 2 ^ k.frac = a.toInt * b.toInt) : divExact k (mulK k a b) b = a := by
  have hquot : ((mulK k a b).toInt * 2 ^ k.frac).tdiv b.toInt = a.toInt := by
    rw [hexact, Int.mul_tdiv_cancel _ hzero]
  rw [divExact_eq hzero hmin, hquot, BitVec.ofInt_toInt]
  rintro rfl
  rw [hquot]
  have hlo := BitVec.le_toInt a
  have hhi := BitVec.toInt_lt (x := a)
  simp only [Kernel.width] at hlo hhi
  omega

/-! ## The obligations -/

/-- Settles O35, by the library's wrapping operations. -/
theorem addSubNegWrap : Obligations.AddSubNegWrap := by
  refine ⟨⟨rfl, rfl⟩, ⟨rfl, rfl⟩, ⟨rfl, rfl⟩, fun k s => ?_⟩
  rw [exec_add, exec_sub, exec_neg, addK_eq, subK_eq, negK_eq]
  exact ⟨rfl, rfl, rfl⟩

/-- Settles O36: double width holds the product, and narrowing wraps. -/
theorem mulIsTheShiftedDoubleWidthProduct : Obligations.MulIsTheShiftedDoubleWidthProduct := by
  refine ⟨⟨rfl, rfl⟩, fun k s => ?_⟩
  dsimp only
  rw [exec_mul, mulK_eq, signedResult_eq]

/-- Settles O37, by the library's truncated remainder, which is below the divisor and so in range. -/
theorem modIsTheTruncatedRemainder : Obligations.ModIsTheTruncatedRemainder := by
  refine ⟨⟨rfl, rfl⟩, fun k s => ⟨fun hzero => ?_, fun hzero => ?_⟩⟩
  · rw [exec_mod, modK_eq, if_pos hzero, signedResult_zero]
  · have hlt := natAbs_tmod_lt (opA k s).toInt hzero
    have hlo := BitVec.le_toInt (opB k s)
    have hhi := BitVec.toInt_lt (x := opB k s)
    refine ⟨_, hlt, Int.dvd_self_sub_tmod, Int.tmod_nonneg _, tmod_nonpos _, ?_⟩
    rw [exec_mod, modK_eq, if_neg hzero, signedResult_ofInt (by omega) (by omega)]

/-- Settles O43: the product is the exact one, and the exact quotient of it by a factor is the other factor. -/
theorem exactDivisionUndoesExactMultiplication : Obligations.ExactDivisionUndoesExactMultiplication := by
  intro k s a b hzero hmin hdvd hlo hhi
  refine ⟨_, exec_mul k s, ?_⟩
  have hA : opA k (withPorts s (signedResult (mulK k (opA k s) (opB k s))) s.port.opb) =
      mulK k (opA k s) (opB k s) := signedResult_setWidth k _
  have hB : opB k (withPorts s (signedResult (mulK k (opA k s) (opB k s))) s.port.opb) = opB k s := rfl
  rw [exec_divX, hA, hB, divExact_mulK hzero hmin (toInt_mulK_mul hdvd hlo hhi), signedResult_eq]

end Sys2Proof.ArithmeticProofs

/-! # Construction and conversion of integers (O25, O29, O30, O31)

Scaling by a power of two as a left shift, the three roundings as shifts of a sum that may wrap, and the single
truncated division of the ratios (`42_convert_arith.md` R142, R145 to R147, R150 to R155). -/

namespace Sys2Proof.ConversionProofs

open Sys2Proof
open Sys2Proof.Machine
open Sys2Proof.Claims

/-! ## What the instructions complete with -/

theorem exec_fromint (k : Kernel) (s : State) :
    exec (.fromint k) s =
      .next (completed (signedResult (BitVec.ofInt k.width ((wordA s).toInt * 2 ^ k.frac))) s) := rfl

theorem exec_widen (s : State) : exec .widen s = .next (completed (widenRaw (opA .k32 s)) s) := rfl

theorem exec_narrow (s : State) : exec .narrow s = .next (latchFault .notImplemented s) := rfl

theorem exec_tointf (k : Kernel) (s : State) :
    exec (.tointf k) s = .next (completed (signedResult (shr .arithmetic (opA k s) k.frac)) s) := rfl

theorem exec_tointc (k : Kernel) (s : State) :
    exec (.tointc k) s =
      .next (completed (signedResult (shr .arithmetic (opA k s + fracMask k) k.frac)) s) := rfl

theorem exec_tointr (k : Kernel) (s : State) :
    exec (.tointr k) s =
      .next (completed (signedResult (shr .arithmetic (opA k s + halfRaw k) k.frac)) s) := rfl

theorem exec_ratio (k : Kernel) (s : State) :
    exec (.ratio k) s =
      .next (completed (signedResult (ratioK k (wordA s).toInt (wordB s).toInt)) s) := rfl

theorem exec_ratio10 (k : Kernel) (s : State) :
    exec (.ratio10 k) s = .next (completed (signedResult (ratioK k (wordA s).toInt 10)) s) := rfl

theorem exec_ratio100 (k : Kernel) (s : State) :
    exec (.ratio100 k) s = .next (completed (signedResult (ratioK k (wordA s).toInt 100)) s) := rfl

theorem exec_ratio1000 (k : Kernel) (s : State) :
    exec (.ratio1000 k) s = .next (completed (signedResult (ratioK k (wordA s).toInt 1000)) s) := rfl

/-! ## Scaling -/

theorem ofInt_two_pow (w n : Nat) : BitVec.ofInt w (2 ^ n) = BitVec.twoPow w n := by
  rw [← BitVec.toNat_inj, BitVec.toNat_twoPow, BitVec.toNat_ofInt]
  norm_cast

/-- A signed value times a power of two, at any width, is the sign-extended pattern moved up. -/
theorem ofInt_toInt_mul_two_pow {v : Nat} (w n : Nat) (x : BitVec v) :
    BitVec.ofInt w (x.toInt * 2 ^ n) = x.signExtend w <<< n := by
  rw [BitVec.ofInt_mul, ofInt_two_pow, BitVec.shiftLeft_eq_mul_twoPow, BitVec.signExtend]

/-! ## Rounding to an integer -/

/-- The shift by the fraction bits leaves the quotient rounded down (`42_convert_arith.md` R145). -/
theorem signedResult_shr_frac (k : Kernel) (v : Raw k) :
    signedResult (shr .arithmetic v k.frac) = BitVec.ofInt 64 (v.toInt / 2 ^ k.frac) := by
  have hfrac : (k.frac : Int) < k.width := by cases k <;> decide
  rw [signedResult_eq, BitVec.signExtend, shr_arithmetic_right v (by omega) hfrac, BitVec.toInt_sshiftRight,
    Int.toNat_natCast, Int.shiftRight_eq_div_pow]
  norm_cast

/-- A sum with an addend that is not negative is exact, or wraps once past the top of the range. -/
theorem toInt_add_of_nonneg (k : Kernel) (v : Raw k) {c : Raw k} (h0 : 0 ≤ c.toInt) :
    (v + c).toInt = if v.toInt ≤ 2 ^ (k.width - 1) - 1 - c.toInt then v.toInt + c.toInt
      else v.toInt + c.toInt - 2 ^ k.width := by
  have hlo := BitVec.le_toInt v
  have hhi := BitVec.toInt_lt (x := v)
  have hc := BitVec.toInt_lt (x := c)
  rw [BitVec.toInt_add, Int.bmod_def]
  cases k <;> simp only [Kernel.width] at * <;> split_ifs <;> omega

/-- Adding less than one unit before the shift rounds, and past the top of the range the sum wraps to the
least integer (`42_convert_arith.md` R146, R147). -/
theorem signedResult_shr_add (k : Kernel) (v c : Raw k) (h0 : 0 ≤ c.toInt) (hone : c.toInt < 2 ^ k.frac) :
    signedResult (shr .arithmetic (v + c) k.frac) =
      BitVec.ofInt 64 (if v.toInt ≤ 2 ^ (k.width - 1) - 1 - c.toInt then (v.toInt + c.toInt) / 2 ^ k.frac
        else -(2 ^ (k.width - 1 - k.frac))) := by
  have hhi := BitVec.toInt_lt (x := v)
  rw [signedResult_shr_frac, toInt_add_of_nonneg k v h0]
  congr 1
  split
  · rfl
  · cases k <;> simp only [Kernel.width, Kernel.frac] at * <;> omega

theorem toInt_fracMask (k : Kernel) : (fracMask k).toInt = 2 ^ k.frac - 1 := by cases k <;> rfl

theorem toInt_halfRaw (k : Kernel) : (halfRaw k).toInt = 2 ^ (k.frac - 1) := by cases k <;> rfl

theorem floor_realValue (k : Kernel) (v : Raw k) : ⌊realValue k v⌋ = v.toInt / 2 ^ k.frac := by
  have h := Rat.floor_intCast_div_natCast v.toInt (2 ^ k.frac)
  push_cast at h
  exact h

theorem ceil_realValue (k : Kernel) (v : Raw k) :
    ⌈realValue k v⌉ = (v.toInt + (2 ^ k.frac - 1)) / 2 ^ k.frac := by
  have h := Rat.ceil_intCast_div_natCast v.toInt (2 ^ k.frac)
  push_cast at h
  refine h.trans ?_
  cases k <;> simp only [Kernel.frac] <;> omega

/-- Rounding to nearest, ties upward, is rounding down after half a unit is added. -/
theorem floor_realValue_add_half (k : Kernel) (v : Raw k) :
    ⌊realValue k v + 1 / 2⌋ = (v.toInt + 2 ^ (k.frac - 1)) / 2 ^ k.frac := by
  have hhalf : realValue k v + 1 / 2 = ((v.toInt + 2 ^ (k.frac - 1) : Int) : ℚ) / ((2 ^ k.frac : Nat) : ℚ) := by
    rw [realValue]
    cases k <;> push_cast <;> ring
  rw [hhalf, Rat.floor_intCast_div_natCast]
  norm_cast

/-! ## Ratios -/

theorem ratioK_zero (k : Kernel) (a : Int) : ratioK k a 0 = 0 := if_pos rfl

theorem ratioK_of_ne_zero (k : Kernel) (a : Int) {d : Int} (h : d ≠ 0) :
    ratioK k a d = BitVec.ofInt k.width ((a * 2 ^ k.frac).tdiv d) := by
  rw [ratioK, if_neg h, tdiv_eq_tdiv]

/-! ## The obligations -/

/-- Settles O25: scaling by a power of two is a left shift of the sign-extended pattern. -/
theorem fromintAndWidenScale : Obligations.FromintAndWidenScale := by
  refine ⟨⟨rfl, rfl⟩, rfl, fun s => ⟨?_, ?_, ?_⟩⟩
  · rw [exec_fromint, ofInt_toInt_mul_two_pow, BitVec.signExtend_eq, signedResult_eq]
  · rw [exec_fromint, ofInt_toInt_mul_two_pow, signedResult_eq, BitVec.signExtend_eq]
  · rw [exec_widen, widenRaw, ofInt_toInt_mul_two_pow, opA_k32]

/-- Settles O29: each rounding is the shift of the operand plus 0, `FracMask` or `half`. -/
theorem toIntegerRounds : Obligations.ToIntegerRounds := by
  refine ⟨⟨rfl, rfl⟩, ⟨rfl, rfl⟩, ⟨rfl, rfl⟩, fun k s => ⟨?_, ?_, ?_⟩⟩
  · rw [exec_tointf, signedResult_shr_frac, floor_realValue]
  · have hmask := toInt_fracMask k
    have hone : (1 : Int) ≤ 2 ^ k.frac := one_le_pow₀ (by decide)
    rw [exec_tointc, signedResult_shr_add k _ _ (by omega) (by omega), hmask, ceil_realValue]
  · have hhalf := toInt_halfRaw k
    have hlt : (2 : Int) ^ (k.frac - 1) < 2 ^ k.frac := by cases k <;> decide
    have hpos : (0 : Int) ≤ 2 ^ (k.frac - 1) := by positivity
    rw [exec_tointr, signedResult_shr_add k _ _ (by omega) (by omega), hhalf, floor_realValue_add_half]

/-- Settles O30, by the library's truncated quotient. -/
theorem ratioTruncatesOneDivision : Obligations.RatioTruncatesOneDivision := by
  refine ⟨⟨rfl, rfl⟩, ⟨rfl, rfl⟩, ⟨rfl, rfl⟩, ⟨rfl, rfl⟩, fun k s => ⟨fun hzero => ?_, fun hne => ?_, ?_⟩⟩
  · have hd : (wordB s).toInt = 0 := by rw [hzero]; exact BitVec.toInt_zero
    rw [exec_ratio, hd, ratioK_zero, signedResult_zero]
  · have hd : (wordB s).toInt ≠ 0 := fun h => hne (BitVec.toInt_inj.1 (h.trans BitVec.toInt_zero.symm))
    rw [exec_ratio, ratioK_of_ne_zero _ _ hd, signedResult_eq]
  · rw [exec_ratio10, exec_ratio100, exec_ratio1000, ratioK_of_ne_zero _ _ (by decide),
      ratioK_of_ne_zero _ _ (by decide), ratioK_of_ne_zero _ _ (by decide)]
    exact ⟨rfl, rfl, rfl⟩

/-- Settles O31: the latch and the one response are what a fault leaves. -/
theorem narrowAlwaysFaults : Obligations.NarrowAlwaysFaults :=
  ⟨rfl, exec_narrow⟩

end Sys2Proof.ConversionProofs

/-! # Floating point in and out (O26, O27, O28)

The value of a pattern through its parts, conversion in by truncation, and conversion out by rounding the
significand to nearest even: every value of a format lies on the grid of the multiples of its last significand
bit (`42_convert_arith.md` R143, R144, R148, R149). -/

namespace Sys2Proof.FloatProofs

open Sys2Proof
open Sys2Proof.Machine
open Sys2Proof.Claims
open Sys2Proof.ArithmeticProofs

/-! ## The value of a pattern -/

/-- The value of a pattern of a format: `value32` and `value64` in one. -/
def formatValue (fmt : FloatFormat) (b : BitVec fmt.width) : Option ℚ :=
  ieeeValue (expBits fmt) (fracBits fmt) (expBias fmt) b.toNat

theorem formatValue_binary32 : formatValue .binary32 = value32 := rfl

theorem formatValue_binary64 : formatValue .binary64 = value64 := rfl

/-- The number a model's triple of sign, mantissa and exponent stands for. -/
def partsValue (p : FloatParts) : ℚ := (if p.neg then -1 else 1) * p.mant * 2 ^ p.exp

theorem toNat_lt_format {fmt : FloatFormat} (b : BitVec fmt.width) :
    b.toNat < 2 ^ (fracBits fmt + expBits fmt) * 2 := by
  cases fmt <;> exact b.isLt

/-- A pattern's value is that of its parts, the fraction scaled to an integer. -/
theorem formatValue_eq (fmt : FloatFormat) (b : BitVec fmt.width) :
    formatValue fmt b = (floatParts fmt b).map partsValue := by
  have hsign : b.toNat / 2 ^ (fracBits fmt + expBits fmt) % 2 = b.toNat / 2 ^ (fracBits fmt + expBits fmt) :=
    Nat.mod_eq_of_lt (Nat.div_lt_of_lt_mul (toNat_lt_format b))
  simp only [formatValue, ieeeValue, floatParts, hsign]
  split
  · rfl
  · split
    · simp only [Option.map_some, partsValue, decide_eq_true_eq, zpow_sub₀ (two_ne_zero' ℚ), zpow_natCast]
      ring_nf
    · simp only [Option.map_some, partsValue, decide_eq_true_eq, zpow_sub₀ (two_ne_zero' ℚ), zpow_natCast]
      push_cast
      field_simp

theorem mant_lt_of_floatParts {fmt : FloatFormat} {b : BitVec fmt.width} {p : FloatParts}
    (h : floatParts fmt b = some p) : p.mant < 2 ^ (fracBits fmt + 1) := by
  have hfraction : b.toNat % 2 ^ fracBits fmt < 2 ^ fracBits fmt := Nat.mod_lt _ (Nat.two_pow_pos _)
  rw [Nat.pow_succ]
  simp only [floatParts] at h
  split at h
  · contradiction
  · split at h
    all_goals
      obtain rfl := Option.some.inj h
      dsimp only
      omega

/-! ## Conversion in -/

theorem truncQ_of_nonneg {q : ℚ} (h : 0 ≤ q) : truncQ q = ⌊q⌋ := if_pos h

theorem truncQ_neg (q : ℚ) : truncQ (-q) = -truncQ q := by
  unfold truncQ
  rcases lt_trichotomy q 0 with h | rfl | h
  · rw [if_pos (by linarith), if_neg (by linarith), Int.floor_neg]
  · simp
  · rw [if_neg (by linarith), if_pos h.le, Int.ceil_neg]

/-- The magnitude of the conversion is the integer part of the scaled mantissa. -/
theorem floor_mul_two_zpow (m : Nat) (e : Int) :
    ⌊(m : ℚ) * 2 ^ e⌋ = ((if 0 ≤ e then m * 2 ^ e.toNat else m / 2 ^ (-e).toNat : Nat) : Int) := by
  split
  · obtain ⟨n, rfl⟩ := Int.eq_ofNat_of_zero_le ‹_›
    rw [Int.toNat_natCast, zpow_natCast]
    exact_mod_cast Int.floor_natCast (R := ℚ) (m * 2 ^ n)
  · obtain ⟨n, hn⟩ := Int.eq_ofNat_of_zero_le (a := -e) (by omega)
    rw [← neg_neg e, hn, neg_neg, Int.toNat_natCast, zpow_neg, zpow_natCast, ← div_eq_mul_inv]
    exact_mod_cast Rat.floor_natCast_div_natCast m (2 ^ n)

theorem truncScaled_eq (frac : Nat) (p : FloatParts) : truncScaled frac p = truncQ (partsValue p * 2 ^ frac) := by
  have hscaled : partsValue p * 2 ^ frac = (if p.neg then -1 else 1) * (p.mant * 2 ^ (p.exp + frac)) := by
    rw [partsValue, zpow_add₀ two_ne_zero, zpow_natCast]
    ring
  have hpos : (0 : ℚ) ≤ p.mant * 2 ^ (p.exp + frac) := by positivity
  have hmag := floor_mul_two_zpow p.mant (p.exp + frac)
  rw [← truncQ_of_nonneg hpos] at hmag
  rw [hscaled]
  simp only [truncScaled, ← hmag]
  split
  · rw [neg_one_mul, truncQ_neg]
  · rw [one_mul]

theorem inRange_iff (k : Kernel) (i : Int) :
    inRange k i = true ↔ -(2 ^ (k.width - 1)) ≤ i ∧ i ≤ 2 ^ (k.width - 1) - 1 := by
  rw [inRange, Bool.and_eq_true, decide_eq_true_iff, decide_eq_true_iff]

theorem fromFloat_eq (k : Kernel) (fmt : FloatFormat) (b : BitVec fmt.width) :
    fromFloat k fmt b = convertsTo k (formatValue fmt b) (Config.floatOor k fmt b) := by
  rw [formatValue_eq]
  unfold fromFloat
  cases floatParts fmt b with
  | none => rfl
  | some p => simp only [Option.map_some, convertsTo, inRange_iff, truncScaled_eq]

/-! ## The grid of a format -/

/-- A value of a format whose magnitude reaches `2^e` is a multiple of the last significand bit of `2^e`. -/
theorem exists_multiple_of_formatValue {fmt : FloatFormat} {b : BitVec fmt.width} {r : ℚ} {e : Int}
    (h : formatValue fmt b = some r) (he : (2 : ℚ) ^ e ≤ |r|) :
    ∃ n : Int, r = n * 2 ^ (e - fracBits fmt) := by
  rw [formatValue_eq] at h
  obtain ⟨p, hp, rfl⟩ := Option.map_eq_some_iff.1 h
  have habs : |partsValue p| = p.mant * 2 ^ p.exp := by
    rw [partsValue, abs_mul, abs_mul, Nat.abs_cast, abs_of_pos (a := (2 : ℚ) ^ p.exp) (zpow_pos two_pos _)]
    split <;> simp
  have hmant : (p.mant : ℚ) < 2 ^ ((fracBits fmt + 1 : Nat) : Int) := by
    rw [zpow_natCast]
    exact_mod_cast mant_lt_of_floatParts hp
  have hlt : (2 : ℚ) ^ e < 2 ^ (((fracBits fmt + 1 : Nat) : Int) + p.exp) := by
    rw [zpow_add₀ two_ne_zero]
    exact (habs ▸ he).trans_lt (mul_lt_mul_of_pos_right hmant (zpow_pos two_pos _))
  have hexp : e < ((fracBits fmt + 1 : Nat) : Int) + p.exp := (zpow_lt_zpow_iff_right₀ one_lt_two).1 hlt
  obtain ⟨d, hd⟩ := Int.eq_ofNat_of_zero_le (a := p.exp - (e - fracBits fmt)) (by omega)
  refine ⟨(if p.neg then -1 else 1) * p.mant * 2 ^ d, ?_⟩
  rw [partsValue, show p.exp = d + (e - fracBits fmt) by omega, zpow_add₀ two_ne_zero, zpow_natCast]
  push_cast
  ring

/-! ## Rounding to nearest even -/

/-- The multiple `n * u` is within half a unit of `x`, and `n` is even where it is exactly half a unit away. -/
structure RoundsTo (u x : ℚ) (n : Int) : Prop where
  within_half : 2 * |n * u - x| ≤ u
  even_of_tie : 2 * |n * u - x| = u → n % 2 = 0

theorem RoundsTo.of_exact {u x : ℚ} {n : Int} (hu : 0 < u) (h : n * u = x) : RoundsTo u x n := by
  have hzero : 2 * |n * u - x| = 0 := by rw [h, sub_self, abs_zero, mul_zero]
  exact ⟨hzero ▸ hu.le, fun htie => absurd (hzero.symm.trans htie) hu.ne⟩

theorem RoundsTo.neg {u x : ℚ} {n : Int} (h : RoundsTo u x n) : RoundsTo u (-x) (-n) := by
  have habs : |((-n : Int) : ℚ) * u - -x| = |n * u - x| := by
    rw [← abs_neg]
    push_cast
    ring_nf
  refine ⟨habs ▸ h.within_half, fun htie => ?_⟩
  have := h.even_of_tie (habs ▸ htie)
  omega

theorem RoundsTo.scale {u x c : ℚ} {n : Int} (hc : 0 < c) (h : RoundsTo u x n) : RoundsTo (u * c) (x * c) n := by
  have habs : 2 * |n * (u * c) - x * c| = 2 * |n * u - x| * c := by
    rw [← mul_assoc, ← sub_mul, abs_mul, abs_of_pos hc, mul_assoc]
  refine ⟨habs ▸ mul_le_mul_of_nonneg_right h.within_half hc.le, fun htie => h.even_of_tie ?_⟩
  exact mul_right_cancel₀ hc.ne' (habs.symm.trans htie)

/-- No multiple is nearer than the rounded one, and where another is as near, the rounded one is even. -/
theorem RoundsTo.nearest {u x : ℚ} {n : Int} (hu : 0 < u) (h : RoundsTo u x n) (m : Int) :
    |n * u - x| ≤ |m * u - x| ∧ (m ≠ n → |m * u - x| = |n * u - x| → n % 2 = 0) := by
  rcases eq_or_ne m n with rfl | hne
  · exact ⟨le_rfl, fun h => absurd rfl h⟩
  have hapart : u ≤ |m * u - x| + |n * u - x| := by
    have hone : (1 : ℚ) ≤ |(m : ℚ) - n| := by exact_mod_cast Int.one_le_abs (sub_ne_zero.2 hne)
    calc u ≤ |(m : ℚ) - n| * u := le_mul_of_one_le_left hu.le hone
      _ = |(m * u - x) - (n * u - x)| := by
        rw [← abs_of_pos hu, ← abs_mul, abs_of_pos hu]
        ring_nf
      _ ≤ |m * u - x| + |n * u - x| := abs_sub _ _
  have hhalf := h.within_half
  exact ⟨by linarith, fun _ htie => h.even_of_tie (by linarith)⟩

/-- The lower end of the binade of `x`, with the sign of `x`, is on the grid of that binade. -/
theorem exists_multiple_at_binade {x : ℚ} {e : Int} {f : Nat} (hx : (2 : ℚ) ^ e ≤ |x|) :
    ∃ m : Int, |m * 2 ^ (e - f) - x| = |x| - 2 ^ e := by
  have hpow : (2 : ℚ) ^ f * 2 ^ (e - f) = 2 ^ e := by
    rw [← zpow_natCast, ← zpow_add₀ two_ne_zero, add_sub_cancel]
  rcases le_total 0 x with h0 | h0
  · refine ⟨2 ^ f, ?_⟩
    rw [abs_of_nonneg h0] at hx ⊢
    rw [Int.cast_pow, Int.cast_ofNat, hpow, abs_sub_comm, abs_of_nonneg (sub_nonneg.2 hx)]
  · refine ⟨-2 ^ f, ?_⟩
    rw [abs_of_nonpos h0] at hx ⊢
    rw [Int.cast_neg, Int.cast_pow, Int.cast_ofNat, neg_mul, hpow, abs_of_nonneg (by linarith)]
    ring

/-- A rounding at the precision of a format is nearest among all values of the format: those below the binade
of `x` are farther away than its lower end. -/
theorem nearest_formatValue {fmt : FloatFormat} {b : BitVec fmt.width} {x r : ℚ} {e n : Int}
    (hx : (2 : ℚ) ^ e ≤ |x|) (hn : RoundsTo (2 ^ (e - fracBits fmt)) x n) (hr : formatValue fmt b = some r) :
    |n * 2 ^ (e - fracBits fmt) - x| ≤ |r - x| ∧
      (r ≠ n * 2 ^ (e - fracBits fmt) → |r - x| = |n * 2 ^ (e - fracBits fmt) - x| → n % 2 = 0) := by
  have hu : (0 : ℚ) < 2 ^ (e - fracBits fmt) := zpow_pos two_pos _
  rcases le_or_gt ((2 : ℚ) ^ e) |r| with hbinade | hbelow
  · obtain ⟨m, rfl⟩ := exists_multiple_of_formatValue hr hbinade
    obtain ⟨hle, htie⟩ := hn.nearest hu m
    exact ⟨hle, fun hne => htie fun h => hne (h ▸ rfl)⟩
  · obtain ⟨m, hm⟩ := exists_multiple_at_binade (f := fracBits fmt) hx
    have hle : |n * 2 ^ (e - fracBits fmt) - x| ≤ |x| - 2 ^ e := hm ▸ (hn.nearest hu m).1
    have hfar : |x| - |r| ≤ |r - x| := by
      rw [abs_sub_comm]
      exact abs_sub_abs_le_abs_sub x r
    exact ⟨by linarith, fun _ h => by linarith⟩

/-! ## The significand -/

/-- Division with remainder, rounded up past half of the divisor and, at exactly half, from an odd quotient. -/
theorem roundsTo_of_remainder {d q r : Nat} (hr : r < d) :
    RoundsTo d (d * q + r : Nat) (if d < 2 * r ∨ (2 * r = d ∧ q % 2 = 1) then q + 1 else q : Nat) := by
  have hr' : (r : ℚ) ≤ d := by exact_mod_cast hr.le
  split
  next hup =>
    have hdist : |((q + 1 : Nat) : Int) * (d : ℚ) - (d * q + r : Nat)| = d - r := by
      rw [← abs_of_nonneg (sub_nonneg.2 hr')]
      push_cast
      ring_nf
    refine ⟨?_, fun htie => ?_⟩
    · have hle : (d : ℚ) ≤ 2 * r := by exact_mod_cast (by omega : d ≤ 2 * r)
      rw [hdist]
      linarith
    · have htie' : (2 * r : ℚ) = d := by rw [hdist] at htie; linarith
      have : 2 * r = d := by exact_mod_cast htie'
      omega
  next hdown =>
    have hdist : |((q : Nat) : Int) * (d : ℚ) - (d * q + r : Nat)| = r := by
      rw [← abs_of_nonneg (Nat.cast_nonneg (α := ℚ) r), ← abs_neg]
      push_cast
      ring_nf
    refine ⟨?_, fun htie => ?_⟩
    · rw [hdist]
      exact_mod_cast (by omega : 2 * r ≤ d)
    · have : 2 * r = d := by rw [hdist] at htie; exact_mod_cast htie
      omega

theorem roundsTo_roundShift (m sh : Nat) : RoundsTo (2 ^ sh) m (roundShift m sh : Nat) := by
  have h := roundsTo_of_remainder (q := m / 2 ^ sh) (Nat.mod_lt m (Nat.two_pow_pos sh))
  rw [Nat.div_add_mod, Nat.cast_pow] at h
  exact h

/-- A magnitude of no more bits than the significand has is kept as it is. -/
theorem significand_mul_of_le {fmt : FloatFormat} {m : Nat} (h : Nat.log2 m ≤ fracBits fmt) :
    (significand fmt m : ℚ) * 2 ^ ((Nat.log2 m : Int) - fracBits fmt) = m := by
  obtain ⟨d, hd⟩ := Nat.exists_eq_add_of_le h
  rw [significand, if_pos h, hd, Nat.add_sub_cancel_left,
    show (Nat.log2 m : Int) - ((Nat.log2 m + d : Nat) : Int) = -d by omega, zpow_neg, zpow_natCast]
  push_cast
  exact mul_inv_cancel_right₀ (by positivity) _

/-- A magnitude in the binade of `2^L` is rounded at the last of the format's significand bits
(`42_convert_arith.md` R148). -/
theorem roundsTo_significand (fmt : FloatFormat) (m : Nat) :
    RoundsTo (2 ^ ((Nat.log2 m : Int) - fracBits fmt)) m (significand fmt m : Nat) := by
  rcases Nat.lt_or_ge (fracBits fmt) (Nat.log2 m) with hlt | hle
  · have hexp : (Nat.log2 m : Int) - fracBits fmt = (Nat.log2 m - fracBits fmt : Nat) := by omega
    rw [significand, if_neg (Nat.not_le.2 hlt), hexp, zpow_natCast]
    exact roundsTo_roundShift m _
  · exact .of_exact (zpow_pos two_pos _) (significand_mul_of_le hle)

/-- The rounding keeps the leading 1 in place, or carries out to the next power of two. -/
theorem significand_bounds (fmt : FloatFormat) {m : Nat} (h : m ≠ 0) :
    2 ^ fracBits fmt ≤ significand fmt m ∧ significand fmt m ≤ 2 ^ (fracBits fmt + 1) := by
  obtain ⟨hlo, hhi⟩ := (Nat.log2_eq_iff h).1 rfl
  rw [significand]
  split
  next hle =>
    obtain ⟨d, hd⟩ := Nat.exists_eq_add_of_le hle
    rw [hd, Nat.add_sub_cancel_left, Nat.add_right_comm, pow_add, pow_add]
    exact ⟨Nat.mul_le_mul_right _ hlo, Nat.mul_le_mul_right _ hhi.le⟩
  next hgt =>
    obtain ⟨d, hd⟩ := Nat.exists_eq_add_of_le (Nat.lt_of_not_le hgt).le
    rw [hd, Nat.add_right_comm, pow_add] at hhi
    rw [hd, pow_add] at hlo
    have hquot : 2 ^ fracBits fmt ≤ m / 2 ^ d ∧ m / 2 ^ d < 2 ^ (fracBits fmt + 1) :=
      ⟨(Nat.le_div_iff_mul_le (Nat.two_pow_pos d)).2 hlo, (Nat.div_lt_iff_lt_mul (Nat.two_pow_pos d)).2 hhi⟩
    rw [hd, Nat.add_sub_cancel_left, roundShift]
    split <;> omega

/-! ## Conversion out -/

/-- The value of a pattern put together of a sign, an exponent field and a fraction field. -/
theorem ieeeValue_fields {e f bias sign exponent fraction : Nat} (hsign : sign < 2) (hpos : 0 < exponent)
    (hfinite : exponent < 2 ^ e - 1) (hfraction : fraction < 2 ^ f) :
    ieeeValue e f bias (sign * 2 ^ (f + e) + exponent * 2 ^ f + fraction) =
      some ((if sign = 1 then -1 else 1) * (1 + (fraction : ℚ) / 2 ^ f) * 2 ^ ((exponent : ℤ) - bias)) := by
  have hassoc : sign * 2 ^ (f + e) + exponent * 2 ^ f + fraction =
      2 ^ f * (2 ^ e * sign + exponent) + fraction := by ring
  have hexponent : exponent < 2 ^ e := by omega
  have hmod : (2 ^ f * (2 ^ e * sign + exponent) + fraction) % 2 ^ f = fraction := by
    rw [Nat.mul_add_mod, Nat.mod_eq_of_lt hfraction]
  have hdiv : (2 ^ f * (2 ^ e * sign + exponent) + fraction) / 2 ^ f = 2 ^ e * sign + exponent := by
    rw [Nat.mul_add_div (Nat.two_pow_pos f), Nat.div_eq_of_lt hfraction, Nat.add_zero]
  have hmod' : (2 ^ e * sign + exponent) % 2 ^ e = exponent := by
    rw [Nat.mul_add_mod, Nat.mod_eq_of_lt hexponent]
  have hdiv' : (2 ^ e * sign + exponent) / 2 ^ e = sign := by
    rw [Nat.mul_add_div (Nat.two_pow_pos e), Nat.div_eq_of_lt hexponent, Nat.add_zero]
  rw [hassoc]
  simp only [ieeeValue, pow_add, ← Nat.div_div_eq_div_mul, hmod, hdiv, hmod', hdiv', Nat.mod_eq_of_lt hsign]
  rw [if_neg (by omega), if_neg (by omega)]

/-- The significand less its leading 1, added to the shifted exponent: a carry out of the rounding raises the
exponent (`42_convert_arith.md` R148). -/
theorem ieeeValue_significand {e f bias sign exponent n : Nat} (hsign : sign < 2) (hpos : 0 < exponent)
    (hfinite : exponent + 1 < 2 ^ e - 1) (hlo : 2 ^ f ≤ n) (hhi : n ≤ 2 ^ (f + 1)) :
    ieeeValue e f bias (sign * 2 ^ (f + e) + exponent * 2 ^ f + (n - 2 ^ f)) =
      some ((if sign = 1 then -1 else 1) * (n : ℚ) * 2 ^ ((exponent : ℤ) - bias - f)) := by
  rw [pow_succ] at hhi
  rcases hhi.lt_or_eq with hlt | rfl
  · rw [ieeeValue_fields hsign hpos (by omega) (by omega), zpow_sub₀ two_ne_zero _ (f : ℤ), zpow_natCast,
      Nat.cast_sub hlo]
    push_cast
    field_simp
    ring_nf
  · have hcarry : sign * 2 ^ (f + e) + exponent * 2 ^ f + (2 ^ f * 2 - 2 ^ f) =
        sign * 2 ^ (f + e) + (exponent + 1) * 2 ^ f + 0 := by
      rw [add_mul]
      omega
    rw [hcarry, ieeeValue_fields hsign (by omega) hfinite (Nat.two_pow_pos f), zpow_sub₀ two_ne_zero _ (f : ℤ),
      zpow_natCast]
    push_cast
    rw [add_sub_right_comm, zpow_add_one₀ two_ne_zero]
    congr 1
    field_simp
    ring

/-- The exponent field of a fixed-point value is that of a normal number, with room for a carry
(`42_convert_arith.md` R148: no result is infinite or subnormal). -/
theorem exponent_bounds (fmt : FloatFormat) (k : Kernel) {l : Nat} (h : l < 64) :
    0 < l + expBias fmt - k.frac ∧ l + expBias fmt - k.frac + 1 < 2 ^ expBits fmt - 1 ∧
      ((l + expBias fmt - k.frac : Nat) : Int) - expBias fmt = l - k.frac := by
  cases fmt <;> cases k <;> simp only [expBias, expBits, Kernel.frac] <;> omega

theorem log2_natAbs_lt {k : Kernel} {v : Raw k} (h : v.toInt ≠ 0) : Nat.log2 v.toInt.natAbs < 64 := by
  have hlo := BitVec.le_toInt v
  have hhi := BitVec.toInt_lt (x := v)
  refine (Nat.log2_lt (Int.natAbs_ne_zero.2 h)).2 ?_
  cases k <;> simp only [Kernel.width] at * <;> omega

/-- The sign field of an integer. -/
def signBit (i : Int) : Nat := if i < 0 then 1 else 0

theorem signBit_lt_two (i : Int) : signBit i < 2 := by
  unfold signBit
  split <;> decide

theorem sign_eq_signBit {i : Int} (h : i ≠ 0) : i.sign = if signBit i = 1 then -1 else 1 := by
  unfold signBit
  rcases h.lt_or_gt with h | h
  · simp [h, Int.sign_eq_neg_one_of_neg]
  · simp [h.not_gt, Int.sign_eq_one_of_pos h]

theorem toFloat_zero (fmt : FloatFormat) (frac : Nat) : toFloat fmt frac 0 = 0 := rfl

theorem toFloat_of_ne_zero (fmt : FloatFormat) (frac : Nat) {i : Int} (h : i ≠ 0) :
    toFloat fmt frac i = signBit i * 2 ^ (fracBits fmt + expBits fmt) +
      (Nat.log2 i.natAbs + expBias fmt - frac) * 2 ^ fracBits fmt +
      (significand fmt i.natAbs - 2 ^ fracBits fmt) := by
  rw [signBit, ite_mul, one_mul, zero_mul]
  exact if_neg (Int.natAbs_ne_zero.2 h)

theorem toFloat_lt (fmt : FloatFormat) (k : Kernel) (v : Raw k) : toFloat fmt k.frac v.toInt < 2 ^ fmt.width := by
  have hwidth : 2 ^ fmt.width = 2 ^ (fracBits fmt + expBits fmt) * 2 := by cases fmt <;> rfl
  rw [hwidth]
  rcases eq_or_ne v.toInt 0 with hzero | hne
  · rw [hzero, toFloat_zero]
    positivity
  · obtain ⟨-, hexp, -⟩ := exponent_bounds fmt k (log2_natAbs_lt hne)
    obtain ⟨-, hsig⟩ := significand_bounds fmt (Int.natAbs_ne_zero.2 hne)
    have hsign := signBit_lt_two v.toInt
    rw [toFloat_of_ne_zero fmt _ hne]
    cases fmt <;> simp only [fracBits, expBits] at * <;> omega

/-- The pattern is even exactly if the rounded significand is. -/
theorem toFloat_mod_two (fmt : FloatFormat) (frac : Nat) {i : Int} (h : i ≠ 0) :
    toFloat fmt frac i % 2 = significand fmt i.natAbs % 2 := by
  obtain ⟨hsig, -⟩ := significand_bounds fmt (Int.natAbs_ne_zero.2 h)
  rw [toFloat_of_ne_zero fmt _ h]
  cases fmt <;> simp only [fracBits, expBits] at * <;> omega

/-- The number that `TOF32` and `TOF64` round a raw integer of a kernel to. -/
def roundedValue (fmt : FloatFormat) (k : Kernel) (i : Int) : ℚ :=
  (i.sign * significand fmt i.natAbs : Int) * 2 ^ ((Nat.log2 i.natAbs : Int) - k.frac - fracBits fmt)

theorem formatValue_toFloat (fmt : FloatFormat) (k : Kernel) (v : Raw k) :
    formatValue fmt (BitVec.ofNat fmt.width (toFloat fmt k.frac v.toInt)) =
      some (roundedValue fmt k v.toInt) := by
  rw [formatValue, BitVec.toNat_ofNat, Nat.mod_eq_of_lt (toFloat_lt fmt k v)]
  rcases eq_or_ne v.toInt 0 with hzero | hne
  · rw [hzero, toFloat_zero, roundedValue]
    cases fmt <;> simp [ieeeValue, fracBits, expBits]
  · obtain ⟨hpos, hfinite, hexp⟩ := exponent_bounds fmt k (log2_natAbs_lt hne)
    obtain ⟨hlo, hhi⟩ := significand_bounds fmt (Int.natAbs_ne_zero.2 hne)
    rw [toFloat_of_ne_zero fmt _ hne, ieeeValue_significand (signBit_lt_two _) hpos hfinite hlo hhi, hexp,
      roundedValue, sign_eq_signBit hne]
    push_cast
    rfl

theorem realValue_eq_sign_mul (k : Kernel) (v : Raw k) :
    realValue k v = v.toInt.sign * (v.toInt.natAbs * (2 ^ k.frac)⁻¹) := by
  have hsplit : (v.toInt : ℚ) = v.toInt.sign * v.toInt.natAbs := by
    rw [← Int.cast_natCast v.toInt.natAbs, ← Int.cast_mul, Int.sign_mul_natAbs]
  rw [realValue, div_eq_mul_inv, ← mul_assoc, ← hsplit]

theorem two_zpow_sub_frac (l f : Int) (frac : Nat) : (2 : ℚ) ^ (l - frac - f) = 2 ^ (l - f) * (2 ^ frac)⁻¹ := by
  rw [sub_right_comm, zpow_sub₀ two_ne_zero, zpow_natCast, div_eq_mul_inv]

/-- The signed significand is the fixed-point value rounded at its last bit. -/
theorem roundsTo_realValue (fmt : FloatFormat) {k : Kernel} {v : Raw k} (h : v.toInt ≠ 0) :
    RoundsTo (2 ^ ((Nat.log2 v.toInt.natAbs : Int) - k.frac - fracBits fmt)) (realValue k v)
      (v.toInt.sign * significand fmt v.toInt.natAbs) := by
  have hmag := (roundsTo_significand fmt v.toInt.natAbs).scale (c := (2 ^ k.frac)⁻¹) (by positivity)
  rw [realValue_eq_sign_mul, two_zpow_sub_frac]
  rcases h.lt_or_gt with hneg | hpos
  · rw [Int.sign_eq_neg_one_of_neg hneg, Int.cast_neg, Int.cast_one, neg_one_mul, neg_one_mul]
    exact hmag.neg
  · rw [Int.sign_eq_one_of_pos hpos, Int.cast_one, one_mul, one_mul]
    exact hmag

theorem two_zpow_le_abs_realValue {k : Kernel} {v : Raw k} (h : v.toInt ≠ 0) :
    (2 : ℚ) ^ ((Nat.log2 v.toInt.natAbs : Int) - k.frac) ≤ |realValue k v| := by
  have hlog : ((2 ^ Nat.log2 v.toInt.natAbs : Nat) : ℚ) ≤ v.toInt.natAbs := by
    exact_mod_cast Nat.log2_self_le (Int.natAbs_ne_zero.2 h)
  rw [realValue, abs_div, abs_of_pos (a := (2 : ℚ) ^ k.frac) (by positivity), zpow_sub₀ two_ne_zero,
    zpow_natCast, zpow_natCast, ← Int.cast_abs, Int.abs_eq_natAbs, Int.cast_natCast]
  push_cast at hlog ⊢
  gcongr

theorem realValue_of_toInt_eq_zero {k : Kernel} {v : Raw k} (h : v.toInt = 0) : realValue k v = 0 := by
  rw [realValue, h, Int.cast_zero, zero_div]

/-- The pattern built from the rounded significand is the nearest of its format, ties to even
(`42_convert_arith.md` R148, R149). -/
theorem nearestEven_toFloat (fmt : FloatFormat) (k : Kernel) (v : Raw k) :
    nearestEven (formatValue fmt) (realValue k v) (BitVec.ofNat fmt.width (toFloat fmt k.frac v.toInt))
      (roundedValue fmt k v.toInt) := by
  refine ⟨formatValue_toFloat fmt k v, fun b r hr => ?_⟩
  rw [BitVec.toNat_ofNat, Nat.mod_eq_of_lt (toFloat_lt fmt k v)]
  rcases eq_or_ne v.toInt 0 with hzero | hne
  · have hrounded : roundedValue fmt k 0 = 0 := by simp [roundedValue]
    rw [realValue_of_toInt_eq_zero hzero, hzero, hrounded, sub_self, abs_zero]
    exact ⟨abs_nonneg _, fun _ _ => rfl⟩
  · obtain ⟨hle, htie⟩ := nearest_formatValue (two_zpow_le_abs_realValue hne) (roundsTo_realValue fmt hne) hr
    refine ⟨hle, fun hr hsame => ?_⟩
    have heven := htie hr hsame
    rw [sign_eq_signBit hne] at heven
    rw [toFloat_mod_two fmt _ hne]
    split at heven <;> omega

/-! ## There and back -/

theorem abs_truncQ_sub_lt (q : ℚ) : |truncQ q - q| < 1 := by
  unfold truncQ
  split
  · rw [abs_sub_comm, abs_of_nonneg (sub_nonneg.2 (Int.floor_le q))]
    linarith [Int.lt_floor_add_one q]
  · rw [abs_of_nonneg (sub_nonneg.2 (Int.le_ceil q))]
    linarith [Int.ceil_lt_add_one q]

theorem abs_truncQ_le (q : ℚ) : |(truncQ q : ℚ)| ≤ |q| := by
  unfold truncQ
  split
  next h =>
    rw [abs_of_nonneg h, abs_of_nonneg (by exact_mod_cast Int.floor_nonneg.2 h)]
    exact Int.floor_le q
  next h =>
    have hq : q ≤ 0 := (not_le.1 h).le
    rw [abs_of_nonpos hq, abs_of_nonpos (by exact_mod_cast Int.ceil_nonpos.2 hq)]
    exact neg_le_neg (Int.le_ceil q)

theorem truncQ_intCast (n : Int) : truncQ n = n := by
  unfold truncQ
  split
  · exact Int.floor_intCast n
  · exact Int.ceil_intCast n

/-- A value with no more bits than the significand is converted exactly. -/
theorem roundedValue_eq_realValue {fmt : FloatFormat} {k : Kernel} {v : Raw k}
    (h : Nat.log2 v.toInt.natAbs ≤ fracBits fmt) : roundedValue fmt k v.toInt = realValue k v := by
  rw [roundedValue, realValue_eq_sign_mul, two_zpow_sub_frac, ← significand_mul_of_le h]
  push_cast
  ring

theorem two_pow_le_of_lt_log2 {m f : Nat} (h : f < Nat.log2 m) : 2 ^ f ≤ m := by
  have hm : m ≠ 0 := fun h0 => by simp [h0] at h
  exact (Nat.pow_le_pow_right (by decide) h.le).trans (Nat.log2_self_le hm)

/-- A binary64 number whose scaled magnitude reaches `2^52` has no fraction left to lose. -/
theorem eq_intCast_of_two_pow_le {b : Port} {q : ℚ} {frac : Nat} (h : value64 b = some q)
    (hbig : 2 ^ 52 ≤ |q * 2 ^ frac|) : q * 2 ^ frac = truncQ (q * 2 ^ frac) := by
  have hpos : (0 : ℚ) < 2 ^ frac := by positivity
  have he : (2 : ℚ) ^ ((52 : Int) - frac) ≤ |q| := by
    rw [abs_mul, abs_of_pos hpos] at hbig
    rw [zpow_sub₀ two_ne_zero, zpow_natCast, div_le_iff₀ hpos]
    exact_mod_cast hbig
  obtain ⟨n, hn⟩ := exists_multiple_of_formatValue (fmt := .binary64) h he
  have hexp : (52 : Int) - frac - fracBits .binary64 = -frac := by
    simp only [fracBits]
    omega
  have hint : q * 2 ^ frac = n := by
    rw [hn, hexp, zpow_neg, zpow_natCast, inv_mul_cancel_right₀ hpos.ne']
  rw [hint, truncQ_intCast]

/-- A number in range is converted to its truncation. -/
theorem toInt_fromFloat {k : Kernel} {b : Port} {q : ℚ} (hq : value64 b = some q)
    (hlo : -(2 ^ (k.width - 1)) ≤ truncQ (q * 2 ^ k.frac)) (hhi : truncQ (q * 2 ^ k.frac) ≤ 2 ^ (k.width - 1) - 1) :
    (fromFloat k .binary64 b).toInt = truncQ (q * 2 ^ k.frac) := by
  rw [fromFloat_eq, formatValue_binary64, hq, convertsTo, if_pos ⟨hlo, hhi⟩]
  exact BitVec.toInt_ofInt_eq_self (width_pos k) hlo (by omega)

/-- Truncated and converted back, a binary64 number moves by less than one unit: either the truncated integer
fits the significand, or nothing was truncated. -/
theorem abs_roundedValue_sub_lt {k : Kernel} {b : Port} {q : ℚ} {v : Raw k} (hq : value64 b = some q)
    (hv : v.toInt = truncQ (q * 2 ^ k.frac)) : |roundedValue .binary64 k v.toInt - q| < 1 / 2 ^ k.frac := by
  have hpos : (0 : ℚ) < 2 ^ k.frac := by positivity
  have hreal : realValue k v * 2 ^ k.frac = truncQ (q * 2 ^ k.frac) := by
    rw [realValue, hv, div_mul_cancel₀ _ hpos.ne']
  rcases Nat.lt_or_ge (fracBits .binary64) (Nat.log2 v.toInt.natAbs) with hlong | hshort
  · have hbig : 2 ^ 52 ≤ |q * 2 ^ k.frac| := by
      have habs : ((2 ^ 52 : Nat) : ℚ) ≤ v.toInt.natAbs := by
        exact_mod_cast two_pow_le_of_lt_log2 hlong
      rw [← Int.cast_natCast v.toInt.natAbs, ← Int.abs_eq_natAbs, hv, Int.cast_abs] at habs
      exact_mod_cast habs.trans (abs_truncQ_le _)
    have hexact : realValue k v = q :=
      mul_right_cancel₀ hpos.ne' (hreal.trans (eq_intCast_of_two_pow_le hq hbig).symm)
    obtain ⟨-, hnearest⟩ := nearestEven_toFloat .binary64 k v
    obtain ⟨hle, -⟩ := hnearest b q hq
    rw [hexact, sub_self, abs_zero] at hle
    exact hle.trans_lt (by positivity)
  · have hdist : |realValue k v - q| * 2 ^ k.frac = |truncQ (q * 2 ^ k.frac) - q * 2 ^ k.frac| := by
      rw [← hreal, ← sub_mul, abs_mul, abs_of_pos hpos]
    rw [roundedValue_eq_realValue hshort, lt_div_iff₀ hpos, hdist]
    exact abs_truncQ_sub_lt _

/-! ## What the instructions complete with -/

theorem exec_fromf32 (k : Kernel) (s : State) :
    exec (.fromf32 k) s = .next (completed (signedResult (fromFloat k .binary32 (wordA s))) s) := rfl

theorem exec_fromf64 (k : Kernel) (s : State) :
    exec (.fromf64 k) s = .next (completed (signedResult (fromFloat k .binary64 s.port.opa)) s) := rfl

theorem exec_tof32 (k : Kernel) (s : State) :
    exec (.tof32 k) s =
      .next (completed (BitVec.ofNat 64 (toFloat .binary32 k.frac (opA k s).toInt)) s) := rfl

theorem exec_tof64 (k : Kernel) (s : State) :
    exec (.tof64 k) s =
      .next (completed (BitVec.ofNat 64 (toFloat .binary64 k.frac (opA k s).toInt)) s) := rfl

/-- A pattern of a format on the port, zero-extended, is its number. -/
theorem setWidth_ofNat_toFloat (fmt : FloatFormat) (k : Kernel) (v : Raw k) :
    (BitVec.ofNat fmt.width (toFloat fmt k.frac v.toInt)).setWidth 64 =
      BitVec.ofNat 64 (toFloat fmt k.frac v.toInt) := by
  rw [← BitVec.ofNat_toNat, BitVec.toNat_ofNat, Nat.mod_eq_of_lt (toFloat_lt fmt k v)]

theorem ofNat_toFloat_of_eq_zero (fmt : FloatFormat) {k : Kernel} {v : Raw k} (h : v = 0) :
    BitVec.ofNat fmt.width (toFloat fmt k.frac v.toInt) = 0 := by
  have hv : v.toInt = 0 := by rw [h]; exact BitVec.toInt_zero
  rw [hv, toFloat_zero]
  rfl

/-! ## The obligations -/

/-- Settles O26: the parts of a pattern have its value, and the shift of the mantissa truncates it. -/
theorem fromFloatTruncates : Obligations.FromFloatTruncates := by
  refine ⟨⟨rfl, rfl⟩, ⟨rfl, rfl⟩, fun k s => ?_⟩
  rw [exec_fromf32, exec_fromf64, fromFloat_eq, fromFloat_eq]
  exact ⟨rfl, rfl⟩

/-- Settles O27: in both formats the pattern built from the rounded significand is the nearest. -/
theorem toFloatRoundsToNearestEven : Obligations.ToFloatRoundsToNearestEven := by
  refine ⟨⟨rfl, rfl⟩, ⟨rfl, rfl⟩, fun k s => ⟨?_, ?_⟩⟩
  · refine ⟨_, _, nearestEven_toFloat .binary32 k (opA k s), ofNat_toFloat_of_eq_zero .binary32, ?_⟩
    rw [exec_tof32, ← setWidth_ofNat_toFloat]
  · exact ⟨_, _, nearestEven_toFloat .binary64 k (opA k s), ofNat_toFloat_of_eq_zero .binary64, exec_tof64 k s⟩

/-- Settles O28: conversion in truncates, and conversion out is exact or has nothing truncated to give back. -/
theorem floatRoundTripWithinOneUnit : Obligations.FloatRoundTripWithinOneUnit := by
  intro k s q hq hlo hhi
  have hA : opA k (withPorts s (signedResult (fromFloat k .binary64 s.port.opa)) 0) =
      fromFloat k .binary64 s.port.opa := signedResult_setWidth k _
  refine ⟨_, _, roundedValue .binary64 k (fromFloat k .binary64 s.port.opa).toInt, exec_fromf64 k s,
    exec_tof64 k _, ?_⟩
  rw [hA]
  exact ⟨formatValue_toFloat .binary64 k _, abs_roundedValue_sub_lt hq (toInt_fromFloat hq hlo hhi)⟩

end Sys2Proof.FloatProofs

/-! # Division, reciprocal, roots (O42, O44, O45, O46, O47, O48, O49)

The screens of the operands, the mantissa an evaluator is given in terms of the operand's top 1 bit, and one
lemma for each pipeline, which serves its tiers (`43_div_root_rcp.md` R180 to R199). -/

namespace Sys2Proof.DivRootProofs

open Sys2Proof
open Sys2Proof.Machine
open Sys2Proof.Claims
open Sys2Proof.NormalizeProofs
open Sys2Proof.ArithmeticProofs

/-! ## Screens and magnitudes -/

/-- The screen of division and reciprocal catches 0 and the least value (`43_div_root_rcp.md` R180). -/
theorem badDivisor_eq_true {k : Kernel} {b : Raw k} (h : b = 0 ∨ b.toInt = -(2 ^ (k.width - 1))) :
    badDivisor k b = true := by
  rw [← toInt_minRaw, BitVec.toInt_inj] at h
  simpa [badDivisor] using h

theorem eq_zero_of_toInt_eq_zero {w : Nat} {v : BitVec w} (h : v.toInt = 0) : v = 0 :=
  BitVec.toInt_inj.1 (h.trans BitVec.toInt_zero.symm)

/-- The kernel's width holds the magnitude of every operand (`43_div_root_rcp.md` R182). -/
theorem toNat_magnitude (k : Kernel) (x : Raw k) : (magnitude k x).toNat = x.toInt.natAbs := by
  have hlo := BitVec.le_toInt x
  have hhi := BitVec.toInt_lt (x := x)
  rw [magnitude, BitVec.toNat_ofNat]
  cases k <;> simp only [Kernel.width] at * <;> omega

theorem topBit_magnitude {k : Kernel} {x : Raw k} (h : x ≠ 0) :
    TopBit (magnitude k x).toNat (Nat.log2 x.toInt.natAbs) := by
  rw [toNat_magnitude]
  exact topBit_log2 (Int.natAbs_ne_zero.2 (mt eq_zero_of_toInt_eq_zero h))

theorem neg_two_pow_le {z : Int} (n : Nat) (h : 0 ≤ z) : -2 ^ n ≤ z :=
  (neg_nonpos.2 (by positivity)).trans h

/-- A positive operand is its own unsigned reading. -/
theorem toInt_eq_toNat_of_pos {w : Nat} {x : BitVec w} (h : 0 < x.toInt) : x.toInt = x.toNat := by
  rw [BitVec.toInt_eq_toNat_cond] at h ⊢
  split at h <;> omega

theorem topBit_of_toInt_pos {w : Nat} {x : BitVec w} (h : 0 < x.toInt) :
    TopBit x.toNat (Nat.log2 x.toNat) := by
  have hnat := toInt_eq_toNat_of_pos h
  exact topBit_log2 (by omega)

/-! ## Normalization by the top 1 bit -/

/-- The evaluator's input, by the top 1 bit of the operand (`40_normalize.md` R102). -/
theorem centred_of_topBit {w m : Nat} {u : BitVec w} (hw : 32 ≤ w) (h : TopBit u.toNat m) :
    centred u = centredOf u.toNat m := by
  have hone : oneS230 = BitVec.ofNat 32 (2 ^ 30) := rfl
  obtain ⟨hlo, hhi⟩ := mantissa_bounds h
  rw [centred, normMant_of_topBit hw h, hone, centredOf, ← BitVec.toNat_inj, BitVec.toNat_sub]
  simp only [BitVec.toNat_ofNat]
  omega

theorem normExp_of_topBit {k : Kernel} {m : Nat} {u : Raw k} (h : TopBit u.toNat m) :
    normExp k u = (m : Int) - k.frac := by
  rw [normExp, msbIndex_of_topBit h]

/-- The evaluator's input is a fraction: it lies in `[0, 2^30)` (`40_normalize.md` R102). -/
theorem toInt_centredOf_bounds {u m : Nat} (h : TopBit u m) :
    0 ≤ (centredOf u m).toInt ∧ (centredOf u m).toInt < 2 ^ 30 := by
  obtain ⟨hlo, hhi⟩ := mantissa_bounds h
  rw [centredOf, BitVec.toInt_ofNat', Int.bmod_eq_of_le_mul_two (by omega) (by omega)]
  omega

/-! ## What the instructions complete with -/

theorem exec_sqrtX (k : Kernel) (s : State) :
    exec (.sqrtX k) s = .next (completed (signedResult (sqrtExact k (opA k s))) s) := rfl

/-! ## Exact division -/

theorem divExact_of_badDivisor {k : Kernel} {a b : Raw k} (h : badDivisor k b = true) : divExact k a b = 0 :=
  if_pos h

/-- The K64 divider saturates where the quotient needs more than 64 bits: its test on the operands is the bound
on the quotient (`43_div_root_rcp.md` R181). -/
theorem divExact64_of_overflow {a b : Raw .k64} (hb : b.toInt ≠ 0)
    (hover : 2 ^ 64 ≤ ((a.toInt * 2 ^ 32).tdiv b.toInt).natAbs) : divExact64 a b = maxRaw .k64 := by
  have hscaled : (a.toInt * 2 ^ 32).natAbs = a.toInt.natAbs * 2 ^ 32 := by omega
  rw [Int.natAbs_tdiv, hscaled] at hover
  have hmul : 2 ^ 64 * b.toInt.natAbs ≤ a.toInt.natAbs * 2 ^ 32 :=
    (Nat.le_div_iff_mul_le (Int.natAbs_pos.2 hb)).1 hover
  have hlarge : b.toInt.natAbs ≤ a.toInt.natAbs / 2 ^ 32 := by omega
  rw [divExact64, if_pos hlarge]

theorem divExact_of_overflow {a b : Raw .k64} (hzero : b.toInt ≠ 0)
    (hmin : b.toInt ≠ -(2 ^ (Kernel.k64.width - 1)))
    (hover : 2 ^ 64 ≤ ((a.toInt * 2 ^ Kernel.k64.frac).tdiv b.toInt).natAbs) :
    divExact .k64 a b = maxRaw .k64 := by
  rw [divExact, if_neg (Bool.eq_false_iff.1 (badDivisor_eq_false hzero hmin))]
  exact divExact64_of_overflow hzero hover

theorem signedResult_maxRaw_k64 : signedResult (maxRaw .k64) = BitVec.ofInt 64 (2 ^ 63 - 1) := by decide

/-! ## The evaluating pipelines -/

/-- The evaluator of a divisor or a reciprocal's operand runs on the mantissa of the magnitude
(`43_div_root_rcp.md` R182, R186). -/
theorem rcpMant_eq (rom : CoefRom) {k : Kernel} (slot : Slot) {x : Raw k} (h : x ≠ 0) :
    rcpMant rom k slot x = poly rom .rcp slot (centredOf x.toInt.natAbs (Nat.log2 x.toInt.natAbs)) := by
  rw [rcpMant, centred_of_topBit (le_width k) (topBit_magnitude h), toNat_magnitude]

/-- An instruction that runs the approximate divider of a slot is `DIV` of that slot. -/
theorem divTier_of_divApprox {i : Kernel → Instr} {slot : Slot}
    (hexec : ∀ k s, exec (i k) s =
      .next (completed (signedResult (divApprox s.rom k slot (opA k s) (opB k s))) s)) :
    DivTier i slot := by
  intro k s
  refine ⟨fun hbad => ?_, fun hzero hmin => ?_⟩
  · rw [hexec, divApprox, if_pos (badDivisor_eq_true hbad), signedResult_zero]
  · have hgood := badDivisor_eq_false (mt eq_zero_of_toInt_eq_zero hzero) hmin
    have htop := topBit_magnitude hzero
    refine ⟨_, toNat_magnitude k (opB k s) ▸ htop, ?_⟩
    rw [hexec, divApprox, if_neg (Bool.eq_false_iff.1 hgood), rcpMant_eq _ _ hzero, normExp_of_topBit htop]
    simp only [negK_eq, signedResult_eq]

/-- An instruction that runs the reciprocal of a slot is `RCP` of that slot. -/
theorem rcpTier_of_rcpK {i : Kernel → Instr} {slot : Slot}
    (hexec : ∀ k s, exec (i k) s = .next (completed (signedResult (rcpK s.rom k slot (opA k s))) s)) :
    RcpTier i slot := by
  intro k s
  refine ⟨fun hbad => ?_, fun hzero hmin => ?_⟩
  · rw [hexec, rcpK, if_pos (badDivisor_eq_true hbad), signedResult_zero]
  · have hgood := badDivisor_eq_false (mt eq_zero_of_toInt_eq_zero hzero) hmin
    have htop := topBit_magnitude hzero
    refine ⟨_, toNat_magnitude k (opA k s) ▸ htop, ?_⟩
    rw [hexec, rcpK, if_neg (Bool.eq_false_iff.1 hgood), rcpMant_eq _ _ hzero, normExp_of_topBit htop]
    simp only [BitVec.ofInt_neg, BitVec.ofInt_toInt, toRaw, signedResult_eq]

/-- An instruction that runs the approximate root of a slot is `SQRT` of that slot. -/
theorem sqrtTier_of_sqrtApprox {i : Kernel → Instr} {slot : Slot}
    (hexec : ∀ k s, exec (i k) s = .next (completed (signedResult (sqrtApprox s.rom k slot (opA k s))) s)) :
    SqrtTier i slot := by
  intro k s
  refine ⟨fun hneg => ?_, fun hpos => ?_⟩
  · rw [hexec, sqrtApprox, if_pos hneg, signedResult_zero]
  · have htop := topBit_of_toInt_pos hpos
    refine ⟨_, htop, ?_⟩
    rw [hexec, sqrtApprox, if_neg (not_le.2 hpos), centred_of_topBit (le_width k) htop, normExp_of_topBit htop]
    rfl

/-- An instruction that runs the reciprocal root of a slot is `RSQRT` of that slot. -/
theorem rsqrtTier_of_rsqrtK {i : Kernel → Instr} {slot : Slot}
    (hexec : ∀ k s, exec (i k) s = .next (completed (signedResult (rsqrtK s.rom k slot (opA k s))) s)) :
    RsqrtTier i slot := by
  intro k s
  refine ⟨fun hneg => ?_, fun hpos => ?_⟩
  · rw [hexec, rsqrtK, if_pos hneg, signedResult_zero]
  · have htop := topBit_of_toInt_pos hpos
    refine ⟨_, htop, ?_⟩
    rw [hexec, rsqrtK, if_neg (not_le.2 hpos), centred_of_topBit (le_width k) htop, normExp_of_topBit htop]
    rfl

theorem sqrtTier_p : SqrtTier .sqrtP .p := sqrtTier_of_sqrtApprox fun _ _ => rfl

theorem sqrtTier_f : SqrtTier .sqrtF .f := sqrtTier_of_sqrtApprox fun _ _ => rfl

theorem sqrtTier_ff : SqrtTier .sqrtFF .ff := sqrtTier_of_sqrtApprox fun _ _ => rfl

/-! ## The exact root -/

theorem sqrtExact_of_pos {k : Kernel} {x : Raw k} (h : 0 < x.toInt) :
    sqrtExact k x = BitVec.ofInt k.width (isqrt (x.toNat * 2 ^ k.frac) : Nat) := by
  rw [sqrtExact, if_neg (not_le.2 h), BitVec.ofInt_natCast]

/-- The root of an operand below `2^(W - 1)` scaled by `2^F` stays below `2^(W - F / 2)`: half the bits of
either format are fraction bits (`43_div_root_rcp.md` R190). -/
theorem lt_of_mul_self_le_scaled {k : Kernel} {x r : Int} (hx : x < 2 ^ (k.width - 1))
    (hr : r * r ≤ x * 2 ^ k.frac) : r < 2 ^ (k.width - k.frac / 2) := by
  refine lt_of_mul_self_lt_mul_self₀ (by positivity) (hr.trans_lt ?_)
  cases k <;> norm_num at hx ⊢ <;> omega

/-! ## The sign of the approximate root -/

/-- The correction of an evaluator value in the bound of `43_div_root_rcp.md` R200 (a) does not overflow: the
square of the bound is below `2^61`. -/
theorem qmul30_nonneg {a b : Word} (ha0 : 0 ≤ a.toInt) (ha : a.toInt ≤ 1518500249) (hb0 : 0 ≤ b.toInt)
    (hb : b.toInt ≤ 1518500249) : 0 ≤ (qmul30 a b).toInt := by
  have h0 : 0 ≤ a.toInt * b.toInt := mul_nonneg ha0 hb0
  have hle : a.toInt * b.toInt ≤ 1518500249 * 1518500249 := mul_le_mul ha hb hb0 (by decide)
  rw [qmul30, BitVec.toInt_ofInt_eq_self (by decide) (by omega) (by omega)]
  omega

/-- A shift of a value that is not negative gives none that is, if a left shift moves no bit into the sign. -/
theorem toInt_shr_nonneg {w : Nat} {v : BitVec w} {n : Int} (hw : 0 < w) (h0 : 0 ≤ v.toInt)
    (hfits : v.toInt * 2 ^ (-n).toNat < 2 ^ (w - 1)) : 0 ≤ (shr .arithmetic v n).toInt := by
  by_cases haway : n ≤ -(w : Int) ∨ (w : Int) ≤ n
  · rw [shr_away _ _ haway]
    exact BitVec.toInt_zero.ge
  · rcases lt_or_ge n 0 with hneg | hpos
    · have hscaled : 0 ≤ v.toInt * 2 ^ (-n).toNat := by positivity
      rw [shr_left _ _ (by omega) hneg, ← BitVec.signExtend_eq v,
        ← ConversionProofs.ofInt_toInt_mul_two_pow,
        BitVec.toInt_ofInt_eq_self hw (neg_two_pow_le _ hscaled) hfits]
      exact hscaled
    · rw [shr_arithmetic_right _ hpos (by omega), BitVec.toInt_sshiftRight, Int.shiftRight_eq_div_pow]
      positivity

theorem toInt_signExtend_nonneg {v w : Nat} {x : BitVec v} (hw : v ≤ w) (h : 0 ≤ x.toInt) :
    0 ≤ (x.signExtend w).toInt := by
  rwa [BitVec.toInt_signExtend_of_le hw]

/-- The rescale of a root moves left by no more than the bits the kernel has above 32. -/
theorem rescale_le {k : Kernel} {m : Nat} (h : m < k.width) :
    (-(30 - k.frac - ((m : Int) - k.frac) / 2)).toNat ≤ k.width - 32 := by
  cases k <;> simp only [Kernel.width, Kernel.frac] at * <;> omega

/-- The rescale of a root keeps its sign (`43_div_root_rcp.md` R200). -/
theorem rescale_nonneg {k : Kernel} {m : Nat} {z : Word} (hm : m < k.width) (hz : 0 ≤ z.toInt) :
    0 ≤ (shr .arithmetic (z.signExtend k.width) (30 - k.frac - ((m : Int) - k.frac) / 2)).toInt := by
  refine toInt_shr_nonneg (width_pos k) (toInt_signExtend_nonneg (le_width k) hz) ?_
  rw [BitVec.toInt_signExtend_of_le (le_width k)]
  calc z.toInt * 2 ^ (-(30 - k.frac - ((m : Int) - k.frac) / 2)).toNat
      ≤ z.toInt * 2 ^ (k.width - 32) :=
        mul_le_mul_of_nonneg_left (pow_le_pow_right₀ (by decide) (rescale_le hm)) hz
    _ < 2 ^ 31 * 2 ^ (k.width - 32) := mul_lt_mul_of_pos_right BitVec.toInt_lt (by positivity)
    _ = 2 ^ (k.width - 1) := by cases k <;> rfl

/-- A root pipeline over an evaluator in the bound of `43_div_root_rcp.md` R200 (a) gives no negative
result. -/
theorem sqrtTier_nonneg {i : Kernel → Instr} {slot : Slot} (htier : SqrtTier i slot) (k : Kernel) (s : State)
    (hrom : ∀ c : Word, 0 ≤ c.toInt → c.toInt < 2 ^ 30 →
      0 ≤ (poly s.rom .sqrt slot c).toInt ∧ (poly s.rom .sqrt slot c).toInt ≤ 1518500249) :
    ∃ v : Port, Yields (i k) s v ∧ 0 ≤ v.toInt := by
  obtain ⟨hnonpos, hpositive⟩ := htier k s
  rcases le_or_gt (opA k s).toInt 0 with hneg | hpos
  · exact ⟨0, hnonpos hneg, by decide⟩
  · obtain ⟨m, htop, hexec⟩ := hpositive hpos
    obtain ⟨hc0, hc⟩ := toInt_centredOf_bounds htop
    obtain ⟨hy0, hy⟩ := hrom _ hc0 hc
    refine ⟨_, hexec, toInt_signExtend_nonneg (by cases k <;> decide)
      (rescale_nonneg (lt_width_of_topBit htop) (qmul30_nonneg ?_ ?_ hy0 hy))⟩
    all_goals split <;> decide

/-! ## The obligations -/

/-- Settles O42: the screen, then saturation where a K64 quotient is too large, else the truncated quotient. -/
theorem exactDivisionTruncatesWrapsOrSaturates : Obligations.ExactDivisionTruncatesWrapsOrSaturates := by
  refine ⟨⟨rfl, rfl⟩, fun k s => ⟨fun hbad => ?_, fun hzero hmin => ?_⟩⟩
  · rw [exec_divX, divExact_of_badDivisor (badDivisor_eq_true (hbad.imp_left eq_zero_of_toInt_eq_zero)),
      signedResult_zero]
  · rw [exec_divX]
    split
    case isTrue hover =>
      obtain ⟨rfl, hover⟩ := hover
      rw [divExact_of_overflow hzero hmin hover, signedResult_maxRaw_k64]
    case isFalse hfits =>
      rw [divExact_eq hzero hmin fun hk => not_le.1 fun hover => hfits ⟨hk, hover⟩, signedResult_eq]

/-- Settles O44, by the approximate divider in its two slots. -/
theorem approximateDivisionPipeline : Obligations.ApproximateDivisionPipeline :=
  ⟨⟨rfl, rfl⟩, ⟨rfl, rfl⟩, divTier_of_divApprox fun _ _ => rfl, divTier_of_divApprox fun _ _ => rfl⟩

/-- Settles O45, by the reciprocal in its three slots. -/
theorem reciprocalPipeline : Obligations.ReciprocalPipeline :=
  ⟨⟨rfl, rfl⟩, ⟨rfl, rfl⟩, ⟨rfl, rfl⟩, rcpTier_of_rcpK fun _ _ => rfl, rcpTier_of_rcpK fun _ _ => rfl,
    rcpTier_of_rcpK fun _ _ => rfl⟩

/-- Settles O46: the digit loop ends at the floor of the root, which fits the kernel's width. -/
theorem exactSquareRootIsTheFloor : Obligations.ExactSquareRootIsTheFloor := by
  refine ⟨⟨rfl, rfl⟩, fun k s => ⟨fun hneg => ?_, fun hpos => ?_⟩⟩
  · rw [exec_sqrtX, sqrtExact, if_pos hneg, signedResult_zero]
  · have hnat := toInt_eq_toNat_of_pos hpos
    obtain ⟨hlo, hhi⟩ := isqrt_spec ((opA k s).toNat * 2 ^ k.frac)
    have hsquare : (isqrt ((opA k s).toNat * 2 ^ k.frac) : Int) * isqrt ((opA k s).toNat * 2 ^ k.frac) ≤
        (opA k s).toInt * 2 ^ k.frac := by
      rw [hnat]
      exact_mod_cast hlo
    have hbound := lt_of_mul_self_le_scaled BitVec.toInt_lt hsquare
    have hfits : (2 : Int) ^ (k.width - k.frac / 2) ≤ 2 ^ (k.width - 1) := by cases k <;> decide
    refine ⟨_, Int.natCast_nonneg _, hsquare, ?_, hbound, ?_⟩
    · rw [hnat]
      exact_mod_cast hhi
    · rw [exec_sqrtX, sqrtExact_of_pos hpos,
        signedResult_ofInt (neg_two_pow_le _ (Int.natCast_nonneg _)) (hbound.trans_le hfits)]

/-- Settles O47, by the approximate root in its three slots. -/
theorem approximateSquareRootPipeline : Obligations.ApproximateSquareRootPipeline :=
  ⟨⟨rfl, rfl⟩, ⟨rfl, rfl⟩, ⟨rfl, rfl⟩, sqrtTier_p, sqrtTier_f, sqrtTier_ff⟩

/-- Settles O48: in each slot the pipeline of O47 keeps the sign of a bounded evaluator. -/
theorem squareRootIsNotNegativeOnBoundedRom : Obligations.SquareRootIsNotNegativeOnBoundedRom := by
  intro k s slot i hmem hrom
  simp only [List.mem_cons, Prod.mk.injEq, List.not_mem_nil, or_false] at hmem
  obtain ⟨rfl, rfl⟩ | ⟨rfl, rfl⟩ | ⟨rfl, rfl⟩ := hmem
  · exact sqrtTier_nonneg sqrtTier_p k s hrom
  · exact sqrtTier_nonneg sqrtTier_f k s hrom
  · exact sqrtTier_nonneg sqrtTier_ff k s hrom

/-- Settles O49, by the reciprocal root in its three slots. -/
theorem reciprocalSquareRootPipeline : Obligations.ReciprocalSquareRootPipeline :=
  ⟨⟨rfl, rfl⟩, ⟨rfl, rfl⟩, ⟨rfl, rfl⟩, rsqrtTier_of_rsqrtK fun _ _ => rfl,
    rsqrtTier_of_rsqrtK fun _ _ => rfl, rsqrtTier_of_rsqrtK fun _ _ => rfl⟩

end Sys2Proof.DivRootProofs

/-! # Exponential, logarithm and power (O50 to O53)

The fraction an operand of `EXP2` hands to its evaluator, the values of the pipelines on each side of their
screens, and one lemma for each statement about a tier, which serves its three slots (`44_exp_log_pow.md` R210 to
R229). -/

namespace Sys2Proof.ExpLogProofs

open Sys2Proof
open Sys2Proof.Machine
open Sys2Proof.Claims
open Sys2Proof.NormalizeProofs
open Sys2Proof.ArithmeticProofs
open Sys2Proof.DivRootProofs

/-! ## Operands given on other ports -/

@[simp] theorem withPorts_rom (s : State) (a b : Port) : (withPorts s a b).rom = s.rom := rfl

/-- An operand port given the result of a kernel-width operation is read as that result. -/
@[simp] theorem opA_withPorts_signedResult {k : Kernel} (s : State) (v : Raw k) (b : Port) :
    opA k (withPorts s (signedResult v) b) = v :=
  signedResult_setWidth k v

@[simp] theorem opB_withPorts_signedResult {k : Kernel} (s : State) (a : Port) (v : Raw k) :
    opB k (withPorts s a (signedResult v)) = v :=
  signedResult_setWidth k v

/-- `MUL` of a port by the result of an earlier operation. -/
theorem yields_mul {k : Kernel} (s : State) (a : Port) (v : Raw k) :
    Yields (.mul k) (withPorts s a (signedResult v)) (signedResult (mulK k (a.setWidth k.width) v)) := by
  rw [Yields, exec_mul, opB_withPorts_signedResult]
  rfl

/-! ## Instructions that run a pipeline on `opa` -/

/-- In either kernel the instruction completes with the pipeline's value, in the slot, on the operand `A`. -/
def RunsOnA (i : Kernel → Instr) (slot : Slot)
    (pipeline : CoefRom → (k : Kernel) → Slot → Raw k → Raw k) : Prop :=
  ∀ k s, Yields (i k) s (signedResult (pipeline s.rom k slot (opA k s)))

/-- The instruction on the result of an earlier operation is the pipeline on it. -/
theorem RunsOnA.yields_withPorts {i : Kernel → Instr} {slot : Slot}
    {pipeline : CoefRom → (k : Kernel) → Slot → Raw k → Raw k} (h : RunsOnA i slot pipeline) {k : Kernel}
    (s : State) (v : Raw k) (b : Port) :
    Yields (i k) (withPorts s (signedResult v) b) (signedResult (pipeline s.rom k slot v)) := by
  simpa using h k (withPorts s (signedResult v) b)

theorem runsOnA_expP : RunsOnA .expP .p expK := fun _ _ => rfl

theorem runsOnA_expF : RunsOnA .expF .f expK := fun _ _ => rfl

theorem runsOnA_expFF : RunsOnA .expFF .ff expK := fun _ _ => rfl

/-! ## The floor split of `EXP2` -/

/-- The mask keeps the low `F` bits (`44_exp_log_pow.md` R210). -/
theorem toNat_and_fracMask {k : Kernel} (x : Raw k) : (x &&& fracMask k).toNat = x.toNat % 2 ^ k.frac := by
  have hmask : (fracMask k).toNat = 2 ^ k.frac - 1 := by cases k <;> rfl
  rw [BitVec.toNat_and, hmask, Nat.and_two_pow_sub_one_eq_mod]

/-- The fraction of the floor split is the low `F` bits of the pattern, of a negative operand too: `2^F` divides
the modulus of the kernel's width. -/
theorem toInt_emod_frac {k : Kernel} (x : Raw k) : x.toInt % 2 ^ k.frac = (x.toNat % 2 ^ k.frac : Nat) := by
  rw [BitVec.toInt_eq_toNat_cond]
  cases k <;> simp only [Kernel.width, Kernel.frac] <;> split <;> omega

/-- A value of `F` fraction bits moved to 30: K32 shifts left and loses no bit, K64 shifts right and drops the low
two (`44_exp_log_pow.md` R210). -/
theorem toNat_shr_frac_sub_thirty {k : Kernel} {u : Raw k} (h : u.toNat < 2 ^ k.frac) :
    (shr .logical u ((k.frac : Int) - 30)).toNat = u.toNat * 2 ^ 30 / 2 ^ k.frac := by
  cases k
  case k32 =>
    have hamount : (-((Kernel.k32.frac : Int) - 30)).toNat = 14 := rfl
    rw [shr_left _ u (by decide) (by decide), BitVec.toNat_shiftLeft, Nat.shiftLeft_eq, hamount]
    simp only [Kernel.width, Kernel.frac] at *
    omega
  case k64 =>
    have hamount : ((Kernel.k64.frac : Int) - 30).toNat = 2 := rfl
    rw [shr_logical_right u (by decide) (by decide), BitVec.toNat_ushiftRight, Nat.shiftRight_eq_div_pow, hamount]
    simp only [Kernel.frac]
    omega

/-- What the evaluator of `EXP2` is given: the fraction of the floor split in s2.30
(`44_exp_log_pow.md` R210). -/
theorem exp2_fraction_eq {k : Kernel} (x : Raw k) :
    (shr .logical (x &&& fracMask k) ((k.frac : Int) - 30)).setWidth 32 =
      BitVec.ofInt 32 (x.toInt % 2 ^ k.frac * 2 ^ 30 / 2 ^ k.frac) := by
  have hfraction := toNat_and_fracMask x
  have hlt : (x &&& fracMask k).toNat < 2 ^ k.frac := hfraction ▸ Nat.mod_lt _ (Nat.two_pow_pos _)
  rw [← BitVec.toNat_inj, BitVec.toNat_setWidth, toNat_shr_frac_sub_thirty hlt, hfraction, toInt_emod_frac,
    ← BitVec.toNat_ofNat, ← BitVec.ofInt_natCast]
  push_cast
  rfl

/-! ## The base-2 exponential -/

theorem exp2Bound_pos (k : Kernel) : 0 < exp2Bound k * 2 ^ k.frac := by cases k <;> decide

theorem signedResult_maxRaw (k : Kernel) :
    signedResult (maxRaw k) = BitVec.ofInt 64 (2 ^ (k.width - 1) - 1) := by
  cases k <;> decide

theorem exp2K_of_bound_le (rom : CoefRom) {k : Kernel} (slot : Slot) {x : Raw k}
    (h : exp2Bound k * 2 ^ k.frac ≤ x.toInt) : exp2K rom k slot x = maxRaw k :=
  if_pos h

theorem exp2K_of_le_neg_bound (rom : CoefRom) {k : Kernel} (slot : Slot) {x : Raw k}
    (h : x.toInt ≤ -(exp2Bound k * 2 ^ k.frac)) : exp2K rom k slot x = 0 := by
  have hpos := exp2Bound_pos k
  rw [exp2K, if_neg (by omega), if_pos h]

theorem exp2K_inside (rom : CoefRom) {k : Kernel} (slot : Slot) {x : Raw k}
    (hlo : -(exp2Bound k * 2 ^ k.frac) < x.toInt) (hhi : x.toInt < exp2Bound k * 2 ^ k.frac) :
    exp2K rom k slot x =
      toRaw k (poly rom .exp2 slot (BitVec.ofInt 32 (x.toInt % 2 ^ k.frac * 2 ^ 30 / 2 ^ k.frac)))
        (30 - k.frac - x.toInt / 2 ^ k.frac) := by
  rw [exp2K, if_neg (not_le.2 hhi), if_neg (not_le.2 hlo), ← exp2_fraction_eq]

/-- An instruction that runs the base-2 exponential of a slot is `EXP2` of that slot. -/
theorem exp2Tier_of_runsOnA {i : Kernel → Instr} {slot : Slot} (hrun : RunsOnA i slot exp2K) :
    Exp2Tier i slot := by
  intro k s
  have hexec := hrun k s
  refine ⟨fun hge => ?_, fun hle => ?_, fun hlo hhi => ?_⟩
  · rwa [exp2K_of_bound_le s.rom slot hge, signedResult_maxRaw] at hexec
  · rwa [exp2K_of_le_neg_bound s.rom slot hle, signedResult_zero] at hexec
  · rwa [exp2K_inside s.rom slot hlo hhi] at hexec

/-! ## The natural exponential -/

/-- An instruction that runs the natural exponential of a slot is `EXP` over the `EXP2` of that slot. -/
theorem expTier_of_runsOnA {i exp2 : Kernel → Instr} {slot : Slot} (hrun : RunsOnA i slot expK)
    (hexp2 : RunsOnA exp2 slot exp2K) : ExpTier i exp2 :=
  fun k s => ⟨_, _, yields_mul s s.port.opa (constRaw k .rcpLn2), hexp2.yields_withPorts s _ 0, hrun k s⟩

/-! ## The logarithms -/

theorem log2K_of_nonpos (rom : CoefRom) {k : Kernel} (slot : Slot) {x : Raw k} (h : x.toInt ≤ 0) :
    log2K rom k slot x = 0 :=
  if_pos h

theorem lnK_of_nonpos (rom : CoefRom) {k : Kernel} (slot : Slot) {x : Raw k} (h : x.toInt ≤ 0) :
    lnK rom k slot x = 0 :=
  if_pos h

/-- The exponent term of the base-2 logarithm is the exponent in the kernel's format
(`44_exp_log_pow.md` R218). -/
theorem log2K_of_topBit (rom : CoefRom) {k : Kernel} (slot : Slot) {x : Raw k} {m : Nat} (h : 0 < x.toInt)
    (htop : TopBit x.toNat m) :
    log2K rom k slot x = BitVec.ofInt k.width (((m : Int) - k.frac) * 2 ^ k.frac +
      (toRaw k (poly rom .log2 slot (centredOf x.toNat m)) (30 - k.frac)).toInt) := by
  rw [log2K, if_neg (not_le.2 h), centred_of_topBit (le_width k) htop, normExp_of_topBit htop]

/-- The exponent term of the natural logarithm is an exact product with the raw constant
(`44_exp_log_pow.md` R222). -/
theorem lnK_of_topBit (rom : CoefRom) {k : Kernel} (slot : Slot) {x : Raw k} {m : Nat} (h : 0 < x.toInt)
    (htop : TopBit x.toNat m) :
    lnK rom k slot x = BitVec.ofInt k.width (((m : Int) - k.frac) * (constRaw k .ln2).toInt +
      (toRaw k (poly rom .log slot (centredOf x.toNat m)) (30 - k.frac)).toInt) := by
  rw [lnK, if_neg (not_le.2 h), centred_of_topBit (le_width k) htop, normExp_of_topBit htop]

/-- An instruction that runs the base-2 logarithm of a slot is `LOG2` of that slot. -/
theorem log2Tier_of_runsOnA {i : Kernel → Instr} {slot : Slot} (hrun : RunsOnA i slot log2K) :
    Log2Tier i slot := by
  intro k s
  have hexec := hrun k s
  refine ⟨fun hneg => ?_, fun hpos => ?_⟩
  · rwa [log2K_of_nonpos s.rom slot hneg, signedResult_zero] at hexec
  · have htop := topBit_of_toInt_pos hpos
    rw [log2K_of_topBit s.rom slot hpos htop] at hexec
    exact ⟨_, htop, hexec⟩

/-- An instruction that runs the natural logarithm of a slot is `LOG` of that slot. -/
theorem logTier_of_runsOnA {i : Kernel → Instr} {slot : Slot} (hrun : RunsOnA i slot lnK) : LogTier i slot := by
  intro k s
  have hexec := hrun k s
  refine ⟨fun hneg => ?_, fun hpos => ?_⟩
  · rwa [lnK_of_nonpos s.rom slot hneg, signedResult_zero] at hexec
  · have htop := topBit_of_toInt_pos hpos
    rw [lnK_of_topBit s.rom slot hpos htop] at hexec
    exact ⟨_, htop, hexec⟩

/-! ## The power -/

theorem signedResult_oneRaw (k : Kernel) : signedResult (oneRaw k) = BitVec.ofNat 64 (2 ^ k.frac) := by
  cases k <;> decide

/-- The exponent 0 is looked at before the base (`44_exp_log_pow.md` R226). -/
theorem powK_zero (rom : CoefRom) {k : Kernel} (slot : Slot) (x : Raw k) : powK rom k slot x 0 = oneRaw k :=
  if_pos BitVec.toInt_zero

theorem powK_of_nonpos (rom : CoefRom) {k : Kernel} (slot : Slot) {x p : Raw k} (hp : p ≠ 0) (hx : x.toInt ≤ 0) :
    powK rom k slot x p = 0 := by
  rw [powK, if_neg (mt eq_zero_of_toInt_eq_zero hp), if_pos hx]

theorem powK_of_pos (rom : CoefRom) {k : Kernel} (slot : Slot) {x p : Raw k} (hp : p ≠ 0) (hx : 0 < x.toInt) :
    powK rom k slot x p = expK rom k slot (mulK k p (lnK rom k slot x)) := by
  rw [powK, if_neg (mt eq_zero_of_toInt_eq_zero hp), if_neg (not_le.2 hx)]

/-- An instruction that runs the power of a slot is `POW` over the `EXP` and the `LOG` of that slot. -/
theorem powTier_of_powK {i exp log : Kernel → Instr} {slot : Slot}
    (hrun : ∀ k s, Yields (i k) s (signedResult (powK s.rom k slot (opA k s) (opB k s))))
    (hexp : RunsOnA exp slot expK) (hlog : RunsOnA log slot lnK) : PowTier i exp log := by
  intro k s
  have hexec := hrun k s
  refine ⟨fun hzero => ?_, fun hp hneg => ?_, fun hp hpos => ?_⟩
  · rwa [hzero, powK_zero, signedResult_oneRaw] at hexec
  · rwa [powK_of_nonpos s.rom slot hp hneg, signedResult_zero] at hexec
  · rw [powK_of_pos s.rom slot hp hpos] at hexec
    exact ⟨_, _, _, hlog k s, yields_mul s s.port.opb _, hexp.yields_withPorts s _ 0, hexec⟩

/-! ## The obligations -/

/-- Settles O50, by the base-2 exponential in its three slots. -/
theorem baseTwoExponentialPipeline : Obligations.BaseTwoExponentialPipeline :=
  ⟨⟨rfl, rfl⟩, ⟨rfl, rfl⟩, ⟨rfl, rfl⟩, exp2Tier_of_runsOnA fun _ _ => rfl, exp2Tier_of_runsOnA fun _ _ => rfl,
    exp2Tier_of_runsOnA fun _ _ => rfl⟩

/-- Settles O51: the pipeline's product is what `MUL` completes with. -/
theorem naturalExponentialIsExp2OfTheProduct : Obligations.NaturalExponentialIsExp2OfTheProduct :=
  ⟨⟨rfl, rfl⟩, ⟨rfl, rfl⟩, ⟨rfl, rfl⟩, expTier_of_runsOnA runsOnA_expP fun _ _ => rfl,
    expTier_of_runsOnA runsOnA_expF fun _ _ => rfl, expTier_of_runsOnA runsOnA_expFF fun _ _ => rfl⟩

/-- Settles O52, by the two logarithms in their three slots. -/
theorem logarithmPipelines : Obligations.LogarithmPipelines :=
  ⟨⟨rfl, rfl⟩, ⟨rfl, rfl⟩, ⟨rfl, rfl⟩, ⟨rfl, rfl⟩, ⟨rfl, rfl⟩, ⟨rfl, rfl⟩,
    log2Tier_of_runsOnA fun _ _ => rfl, log2Tier_of_runsOnA fun _ _ => rfl, log2Tier_of_runsOnA fun _ _ => rfl,
    logTier_of_runsOnA fun _ _ => rfl, logTier_of_runsOnA fun _ _ => rfl, logTier_of_runsOnA fun _ _ => rfl⟩

/-- Settles O53: past its two screens the pipeline is `EXP` of `MUL` of the exponent by `LOG` of the base. -/
theorem powerIsExpOfLog : Obligations.PowerIsExpOfLog :=
  ⟨⟨rfl, rfl⟩, ⟨rfl, rfl⟩, ⟨rfl, rfl⟩,
    powTier_of_powK (slot := .p) (fun _ _ => rfl) runsOnA_expP fun _ _ => rfl,
    powTier_of_powK (slot := .f) (fun _ _ => rfl) runsOnA_expF fun _ _ => rfl,
    powTier_of_powK (slot := .ff) (fun _ _ => rfl) runsOnA_expFF fun _ _ => rfl⟩

end Sys2Proof.ExpLogProofs

/-! # Trigonometry (O54 to O59)

The mirror of a reduced angle, the quotient and the signs of the two-argument arctangent, and one lemma for each
statement about a tier, which serves its three slots (`45_trig.md` R230 to R259). -/

namespace Sys2Proof.TrigProofs

open Sys2Proof
open Sys2Proof.Machine
open Sys2Proof.Claims
open Sys2Proof.NormalizeProofs
open Sys2Proof.ArithmeticProofs
open Sys2Proof.DivRootProofs
open Sys2Proof.ExpLogProofs

/-! ## Operands given on other ports -/

theorem yields_add {k : Kernel} (s : State) (a : Port) (v : Raw k) :
    Yields (.add k) (withPorts s a (signedResult v)) (signedResult (addK k (a.setWidth k.width) v)) := by
  rw [Yields, exec_add, opB_withPorts_signedResult]
  rfl

theorem yields_sub {k : Kernel} (s : State) (a : Port) (v : Raw k) :
    Yields (.sub k) (withPorts s a (signedResult v)) (signedResult (subK k (a.setWidth k.width) v)) := by
  rw [Yields, exec_sub, opB_withPorts_signedResult]
  rfl

/-! ## Instructions that run a pipeline on `opa` and `opb` -/

/-- In either kernel the instruction completes with the pipeline's value, in the slot, on the operands `A` and
`B`. -/
def RunsOnAB (i : Kernel → Instr) (slot : Slot)
    (pipeline : CoefRom → (k : Kernel) → Slot → Raw k → Raw k → Raw k) : Prop :=
  ∀ k s, Yields (i k) s (signedResult (pipeline s.rom k slot (opA k s) (opB k s)))

/-- The instruction on the results of earlier operations is the pipeline on them. -/
theorem RunsOnAB.yields_signedResult {i : Kernel → Instr} {slot : Slot}
    {pipeline : CoefRom → (k : Kernel) → Slot → Raw k → Raw k → Raw k} (h : RunsOnAB i slot pipeline) {k : Kernel}
    (s : State) (a b : Raw k) :
    Yields (i k) (withPorts s (signedResult a) (signedResult b)) (signedResult (pipeline s.rom k slot a b)) := by
  have hexec := h k (withPorts s (signedResult a) (signedResult b))
  rwa [opA_withPorts_signedResult, opB_withPorts_signedResult] at hexec

theorem runsOnA_sinP : RunsOnA .sinP .p sinK := fun _ _ => rfl

theorem runsOnA_sinF : RunsOnA .sinF .f sinK := fun _ _ => rfl

theorem runsOnA_sinFF : RunsOnA .sinFF .ff sinK := fun _ _ => rfl

theorem runsOnAB_atan2P : RunsOnAB .atan2P .p atan2K := fun _ _ => rfl

theorem runsOnAB_atan2F : RunsOnAB .atan2F .f atan2K := fun _ _ => rfl

theorem runsOnAB_atan2FF : RunsOnAB .atan2FF .ff atan2K := fun _ _ => rfl

theorem runsOnA_sqrtP : RunsOnA .sqrtP .p sqrtApprox := fun _ _ => rfl

theorem runsOnA_sqrtF : RunsOnA .sqrtF .f sqrtApprox := fun _ _ => rfl

theorem runsOnA_sqrtFF : RunsOnA .sqrtFF .ff sqrtApprox := fun _ _ => rfl

/-! ## The mirror -/

theorem reduceK_eq (k : Kernel) (x : Raw k) : reduceK k x = quarterTurns k x := by
  have hconst : (constS230 .rcpHalfPi).toInt = 683565276 := by decide
  rw [reduceK, hconst, quarterTurns]

/-- An exclusive or is negative exactly where the signs of its operands differ. -/
theorem toInt_xor_neg_iff {w : Nat} (a b : BitVec w) : (a ^^^ b).toInt < 0 ↔ ¬ (a.toInt < 0 ↔ b.toInt < 0) := by
  have hmsb := BitVec.msb_xor (x := a) (y := b)
  rw [BitVec.msb_eq_toInt, BitVec.msb_eq_toInt, BitVec.msb_eq_toInt] at hmsb
  by_cases ha : a.toInt < 0 <;> by_cases hb : b.toInt < 0 <;> simpa [ha, hb] using hmsb

/-- The top two bits of an angle differ outside `[-1, 1)` in s2.30, and only there is it mirrored
(`45_trig.md` R231). -/
theorem mirror_eq (z : Word) :
    mirror z = if -(2 ^ 30) ≤ z.toInt ∧ z.toInt < 2 ^ 30 then z else BitVec.ofInt 32 (2 ^ 31 - z.toInt) := by
  have hlo := BitVec.le_toInt z
  have hhi := BitVec.toInt_lt (x := z)
  have hdiffer : (z ^^^ BitVec.ofInt 32 (z.toInt * 2)).toInt < 0 ↔ ¬ (-(2 ^ 30) ≤ z.toInt ∧ z.toInt < 2 ^ 30) := by
    rw [toInt_xor_neg_iff, BitVec.toInt_ofInt, Int.bmod_def]
    split <;> omega
  rw [mirror, if_congr hdiffer rfl rfl, ite_not]

/-- The mirror brings every angle into `[-1, 1]` (`45_trig.md` R231). -/
theorem toInt_mirror_bounds (z : Word) : -(2 ^ 30) ≤ (mirror z).toInt ∧ (mirror z).toInt ≤ 2 ^ 30 := by
  have hlo := BitVec.le_toInt z
  have hhi := BitVec.toInt_lt (x := z)
  rw [mirror_eq]
  split
  case isTrue hin => omega
  case isFalse hout =>
    rw [BitVec.toInt_ofInt, Int.bmod_def]
    split <;> omega

/-! ## The sine of a reduced angle -/

theorem sineAt_sineOf (rom : CoefRom) (k : Kernel) (slot : Slot) (z : Word) :
    sineAt rom k slot z (sineOf rom k slot z) := by
  obtain ⟨hlo, hhi⟩ := toInt_mirror_bounds z
  refine ⟨mirror z, hlo, hhi, fun hge hlt => ?_, fun hout => ?_, rfl⟩
  · rw [mirror_eq, if_pos ⟨hge, hlt⟩]
  · rw [mirror_eq, if_neg (by omega)]

theorem qmul30_zero_left (r : Word) : qmul30 0 r = 0 := by simp [qmul30]

theorem qmul30_zero_right (p : Word) : qmul30 p 0 = 0 := by simp [qmul30]

theorem shr_zero {w : Nat} (mode : ShiftMode) (n : Int) : shr mode (0 : BitVec w) n = 0 := by
  unfold shr
  split
  · cases mode <;> simp
  · simp

theorem toRaw_zero (k : Kernel) (n : Int) : toRaw k 0 n = 0 := by
  have hext : (0 : Word).signExtend k.width = 0 := by cases k <;> rfl
  rw [toRaw, hext, shr_zero]

/-- The last product of the sine has the angle as a factor (`45_trig.md` R233). -/
theorem sinK_zero (rom : CoefRom) (k : Kernel) (slot : Slot) : sinK rom k slot 0 = 0 := by
  have hangle : mirror (reduceK k 0) = 0 := by cases k <;> decide
  rw [sinK, sineOf, sincore, hangle, qmul30_zero_right, toRaw_zero]

/-- An instruction that runs the sine of a slot is `SIN` of that slot. -/
theorem sinTier_of_runsOnA {i : Kernel → Instr} {slot : Slot} (hrun : RunsOnA i slot sinK) : SinTier i slot := by
  intro k s
  have hexec := hrun k s
  refine ⟨⟨_, reduceK_eq k (opA k s) ▸ sineAt_sineOf s.rom k slot _, hexec⟩, fun hzero => ?_⟩
  rwa [hzero, sinK_zero, signedResult_zero] at hexec

/-! ## Cosine and tangent -/

/-- An instruction that runs the cosine of a slot is `COS` over the `SIN` of that slot. -/
theorem cosTier_of_runsOnA {i sin : Kernel → Instr} {slot : Slot} (hrun : RunsOnA i slot cosK)
    (hsin : RunsOnA sin slot sinK) : CosTier i sin :=
  fun k s => ⟨_, _, yields_add s s.port.opa (constRaw k .piHalf), hsin.yields_withPorts s _ 0, hrun k s⟩

/-- The divider of the tangent's tier: the exact one for slot `P`, else the approximate one of the slot
(`45_trig.md` R240). -/
def tanDivider (rom : CoefRom) (k : Kernel) : Slot → Raw k → Raw k → Raw k
  | .p => divExact k
  | slot => divApprox rom k slot

theorem tanK_eq (rom : CoefRom) (k : Kernel) (slot : Slot) (x : Raw k) :
    tanK rom k slot x = tanDivider rom k slot (sineOf rom k slot (quarterTurns k x))
      (sineOf rom k slot (quarterTurns k x + 0x40000000#32)) := by
  rw [← reduceK_eq]
  cases slot <;> rfl

theorem divApprox_of_badDivisor (rom : CoefRom) {k : Kernel} (slot : Slot) {a b : Raw k}
    (h : badDivisor k b = true) : divApprox rom k slot a b = 0 :=
  if_pos h

theorem tanDivider_zero (rom : CoefRom) (k : Kernel) (slot : Slot) (a : Raw k) :
    tanDivider rom k slot a 0 = 0 := by
  have hbad : badDivisor k 0 = true := badDivisor_eq_true (.inl rfl)
  cases slot with
  | p => exact divExact_of_badDivisor hbad
  | f | ff => exact divApprox_of_badDivisor rom _ hbad

/-- An instruction that runs the tangent of a slot is `TAN` over the divider of that slot. -/
theorem tanTier_of_runsOnA {i div : Kernel → Instr} {slot : Slot} (hrun : RunsOnA i slot tanK)
    (hdiv : RunsOnAB div slot tanDivider) : TanTier i div slot := by
  intro k s
  have hexec := hrun k s
  rw [tanK_eq] at hexec
  refine ⟨_, _, sineAt_sineOf .., sineAt_sineOf .., ⟨_, hdiv.yields_signedResult s _ _, hexec⟩, fun hzero => ?_⟩
  rwa [hzero, tanDivider_zero, signedResult_zero] at hexec

/-! ## Signs and one's-complement magnitudes -/

theorem signMask_eq (k : Kernel) (x : Raw k) :
    signMask k x = if x.toInt < 0 then BitVec.allOnes k.width else 0#k.width := by
  have hlo := BitVec.le_toInt x
  have hhi := BitVec.toInt_lt (x := x)
  split
  case isTrue hneg =>
    have hquot : x.toInt / 2 ^ (k.width - 1) = -1 := by cases k <;> simp only [Kernel.width] at * <;> omega
    rw [signMask, hquot]
    cases k <;> decide
  case isFalse hnonneg =>
    rw [signMask, Int.ediv_eq_zero_of_lt (not_lt.1 hnonneg) hhi]
    rfl

theorem toNat_onesAbs (k : Kernel) (x : Raw k) : (onesAbs k x).toNat = onesAbsInt x.toInt := by
  have hlt := x.isLt
  rw [onesAbs, signMask_eq, onesAbsInt]
  split
  case isTrue hneg =>
    rw [BitVec.toInt_eq_toNat_cond] at hneg ⊢
    rw [BitVec.xor_allOnes, BitVec.toNat_not]
    split at hneg <;> omega
  case isFalse hnonneg =>
    rw [BitVec.toInt_eq_toNat_cond] at hnonneg ⊢
    rw [BitVec.xor_zero]
    split at hnonneg <;> omega

theorem octantAngle_eq (rom : CoefRom) (k : Kernel) (slot : Slot) (x y : Raw k) (q : Word) :
    octantAngle rom k slot x y q =
      if (x.toInt < 0) = (y.toInt < 0) then toRaw k (poly rom .atan slot q) (30 - k.frac)
      else ~~~toRaw k (poly rom .atan slot q) (30 - k.frac) := by
  rw [octantAngle, signMask_eq, if_congr (toInt_xor_neg_iff x y) rfl rfl, ite_not]
  simp only [eq_iff_iff]
  split
  · exact BitVec.zero_xor
  · exact BitVec.allOnes_xor

/-! ## The ratio helper -/

/-- The shift that puts the denominator's top 1 bit on bit 30 loses no high bit of a numerator that is no larger
(`45_trig.md` R244). -/
theorem toNat_shr_of_lt {w m : Nat} {u : BitVec w} (hw : 32 ≤ w) (hm : m < w) (hu : u.toNat < 2 ^ (m + 1)) :
    (shr .logical u ((m : Int) - 30)).toNat = u.toNat * 2 ^ 30 / 2 ^ m := by
  rcases Nat.lt_or_ge m 30 with hbelow | habove
  · have hsplit : 2 ^ 30 = 2 ^ (30 - m) * 2 ^ m := by rw [← Nat.pow_add, Nat.sub_add_cancel hbelow.le]
    have hfits : u.toNat * 2 ^ (30 - m) < 2 ^ w :=
      calc u.toNat * 2 ^ (30 - m) < 2 ^ (m + 1) * 2 ^ (30 - m) :=
            Nat.mul_lt_mul_of_pos_right hu (Nat.two_pow_pos _)
        _ = 2 ^ 31 := by rw [← Nat.pow_add]; congr 1; omega
        _ ≤ 2 ^ w := Nat.pow_le_pow_right (by decide) (by omega)
    rw [hsplit, ← Nat.mul_assoc, Nat.mul_div_cancel _ (Nat.two_pow_pos m), shr_left _ u (by omega) (by omega),
      show (-((m : Int) - 30)).toNat = 30 - m by omega, BitVec.toNat_shiftLeft, Nat.shiftLeft_eq,
      Nat.mod_eq_of_lt hfits]
  · have hsplit : 2 ^ m = 2 ^ (m - 30) * 2 ^ 30 := by rw [← Nat.pow_add, Nat.sub_add_cancel habove]
    rw [hsplit, Nat.mul_div_mul_right _ _ (Nat.two_pow_pos 30), shr_logical_right u (by omega) (by omega),
      show ((m : Int) - 30).toNat = m - 30 by omega, BitVec.toNat_ushiftRight, Nat.shiftRight_eq_div_pow]

theorem atan2div_eq (rom : CoefRom) (k : Kernel) (slot : Slot) (num den : Raw k) :
    atan2div rom k slot num den = qmul30 ((shr .logical num (msbIndex den - 30)).setWidth 32)
      (poly rom .rcp slot (centred den)) := rfl

/-- The ratio helper on a numerator no larger than the denominator (`45_trig.md` R244). -/
theorem ratioQuotient_atan2div (rom : CoefRom) {k : Kernel} (slot : Slot) {num den : Raw k}
    (hle : num.toNat ≤ den.toNat) :
    ratioQuotient rom slot num.toNat den.toNat (atan2div rom k slot num den) := by
  refine ⟨fun hzero => ?_, fun m htop => ?_⟩
  · have hnum : num = 0 := BitVec.eq_of_toNat_eq (by simpa [hzero] using hle)
    rw [atan2div_eq, hnum, shr_zero, BitVec.ofNat_eq_ofNat, BitVec.setWidth_zero]
    exact qmul30_zero_left _
  · have hshr := toNat_shr_of_lt (le_width k) (lt_width_of_topBit htop) (hle.trans_lt htop.2)
    rw [atan2div_eq, msbIndex_of_topBit htop, centred_of_topBit (le_width k) htop, ← hshr, BitVec.ofNat_toNat]

/-! ## The two-argument arctangent -/

/-- The quotient of the smaller one's-complement magnitude by the larger (`45_trig.md` R244, R245). -/
def octantQuotient (rom : CoefRom) (k : Kernel) (slot : Slot) (y x : Raw k) : Word :=
  if onesAbsInt y.toInt ≤ onesAbsInt x.toInt then atan2div rom k slot (onesAbs k y) (onesAbs k x)
  else atan2div rom k slot (onesAbs k x) (onesAbs k y)

theorem ratioQuotient_octantQuotient (rom : CoefRom) (k : Kernel) (slot : Slot) (y x : Raw k) :
    ratioQuotient rom slot (min (onesAbsInt x.toInt) (onesAbsInt y.toInt))
      (max (onesAbsInt x.toInt) (onesAbsInt y.toInt)) (octantQuotient rom k slot y x) := by
  rw [octantQuotient, ← toNat_onesAbs, ← toNat_onesAbs]
  split
  case isTrue hle =>
    rw [min_eq_right hle, max_eq_left hle]
    exact ratioQuotient_atan2div rom slot hle
  case isFalse hgt =>
    have hle := (not_le.1 hgt).le
    rw [min_eq_left hle, max_eq_right hle]
    exact ratioQuotient_atan2div rom slot hle

/-- The quadrant corrections off the axis (`45_trig.md` R245). -/
theorem atan2K_of_ne_zero (rom : CoefRom) {k : Kernel} (slot : Slot) {y x : Raw k} (hx : x.toInt ≠ 0) :
    atan2K rom k slot y x =
      let ang := octantAngle rom k slot x y (octantQuotient rom k slot y x)
      if onesAbsInt y.toInt ≤ onesAbsInt x.toInt then
        if 0 < x.toInt then ang
        else if 0 ≤ y.toInt then ang + constRaw k .pi else ang - constRaw k .pi
      else if 0 < y.toInt then constRaw k .piHalf - ang else -constRaw k .piHalf - ang := by
  rw [atan2K, if_neg hx]
  simp only [octantQuotient, toNat_onesAbs, addK_eq, subK_eq, negK_eq]
  split <;> rfl

theorem atan2K_of_eq_zero (rom : CoefRom) {k : Kernel} (slot : Slot) (y : Raw k) {x : Raw k} (hx : x.toInt = 0) :
    atan2K rom k slot y x =
      if 0 < y.toInt then constRaw k .piHalf else if y.toInt < 0 then -constRaw k .piHalf else 0 := by
  rw [atan2K, if_pos hx, negK_eq]

/-- An instruction that runs the two-argument arctangent of a slot is `ATAN2` of that slot. -/
theorem atan2Tier_of_runsOnAB {i : Kernel → Instr} {slot : Slot} (hrun : RunsOnAB i slot atan2K) :
    Atan2Tier i slot := by
  intro k s
  have hexec := hrun k s
  refine ⟨fun hx hy => ?_, fun hx hy => ?_, fun hx hy => ?_, fun hx => ?_⟩
  · rwa [atan2K_of_eq_zero _ _ _ hx, if_pos hy] at hexec
  · rwa [atan2K_of_eq_zero _ _ _ hx, if_neg (by omega), if_pos hy] at hexec
  · rwa [atan2K_of_eq_zero _ _ _ hx, if_neg (by omega), if_neg (by omega), signedResult_zero] at hexec
  · rw [atan2K_of_ne_zero _ _ hx, octantAngle_eq] at hexec
    exact ⟨_, ratioQuotient_octantQuotient s.rom k slot (opA k s) (opB k s), hexec⟩

/-- An instruction that runs the arctangent of a slot is `ATAN` over the `ATAN2` of that slot. -/
theorem atanTier_of_runsOnA {i atan2 : Kernel → Instr} {slot : Slot} (hrun : RunsOnA i slot atanK)
    (hatan2 : RunsOnAB atan2 slot atan2K) : AtanTier i atan2 := by
  intro k s
  have hatan := hrun k s
  have hone := hatan2 k (withPorts s s.port.opa (signedResult (oneRaw k)))
  rw [opB_withPorts_signedResult, signedResult_oneRaw] at hone
  exact ⟨_, hone, hatan⟩

/-! ## Inverse sine and cosine -/

/-- A K64 function of the operand on the domain of the inverse functions, for either kernel
(`45_trig.md` R253). -/
def inverseK (fn : CoefRom → Slot → Raw .k64 → Raw .k64) (rom : CoefRom) (k : Kernel) (slot : Slot) (x : Raw k) :
    Raw k :=
  if inUnit k x then viaK64 k (fn rom slot) x else 0

theorem inUnit_iff (k : Kernel) (x : Raw k) : inUnit k x = true ↔ -(2 ^ k.frac) ≤ x.toInt ∧ x.toInt ≤ 2 ^ k.frac := by
  simp [inUnit]

theorem toInt_widenRaw (x : Raw .k32) : (widenRaw x).toInt = x.toInt * 2 ^ 16 := by
  have hlo := BitVec.le_toInt x
  have hhi := BitVec.toInt_lt (x := x)
  simp only [Kernel.width] at hlo hhi
  exact BitVec.toInt_ofInt_eq_self (w := 64) (by decide) (by omega) (by omega)

/-- Widening is exact, so it keeps the domain. -/
theorem inUnit_widenRaw {x : Raw .k32} (h : inUnit .k32 x = true) : inUnit .k64 (widenRaw x) = true := by
  rw [inUnit_iff] at h ⊢
  rw [toInt_widenRaw]
  simp only [Kernel.frac] at h ⊢
  omega

section
variable {fn : CoefRom → Slot → Raw .k64 → Raw .k64} {rom : CoefRom} {slot : Slot}

theorem inverseK_outside {k : Kernel} {x : Raw k} (h : x.toInt < -(2 ^ k.frac) ∨ 2 ^ k.frac < x.toInt) :
    inverseK fn rom k slot x = 0 := by
  have hout : ¬ inUnit k x = true := by
    rw [inUnit_iff]
    omega
  exact if_neg hout

theorem inverseK_k64 {x : Raw .k64} (h : inUnit .k64 x = true) : inverseK fn rom .k64 slot x = fn rom slot x :=
  if_pos h

theorem inverseK_k32 {x : Raw .k32} (h : inUnit .k32 x = true) :
    inverseK fn rom .k32 slot x =
      ((inverseK fn rom .k64 slot (widenRaw x)).sshiftRight 16).setWidth 32 := by
  rw [inverseK_k64 (inUnit_widenRaw h), inverseK, if_pos h, viaK64, shr_arithmetic_right _ (by decide) (by decide)]
  rfl

end

theorem signedResult_k64 (v : Raw .k64) : signedResult v = v := BitVec.signExtend_eq v

/-- The pipeline's root is what the K64 instructions give in turn (`45_trig.md` R253). -/
theorem rootOfComplement_complementRoot {sqrt : Kernel → Instr} {slot : Slot} (hsqrt : RunsOnA sqrt slot sqrtApprox)
    (s : State) (x : Raw .k64) :
    rootOfComplement sqrt s (signedResult x) (signedResult (complementRoot s.rom slot x)) := by
  have hone : (0x100000000 : Port) = signedResult (oneRaw .k64) := by decide
  have hadd := yields_add s (signedResult (oneRaw .k64)) x
  have hsub := yields_sub s (signedResult (oneRaw .k64)) x
  have hmul := yields_mul s (signedResult (addK .k64 (oneRaw .k64) x)) (subK .k64 (oneRaw .k64) x)
  rw [signedResult_setWidth] at hadd hsub hmul
  rw [rootOfComplement, hone]
  exact ⟨_, _, _, hadd, hsub, hmul, hsqrt.yields_withPorts s _ 0⟩

/-- An instruction that runs a K64 function through the domain test and the widening is an inverse function of its
slot, if that function is `ATAN2`, in an order, of its operand and the root. -/
theorem inverseTier_of_runsOnA {i atan2 sqrt : Kernel → Instr} {slot : Slot} {order : Port → Port → State → State}
    {fn : CoefRom → Slot → Raw .k64 → Raw .k64}
    (hrun : RunsOnA i slot (inverseK fn)) (hsqrt : RunsOnA sqrt slot sqrtApprox)
    (hatan2 : ∀ s (x : Raw .k64),
      Yields (atan2 .k64) (order (signedResult x) (signedResult (complementRoot s.rom slot x)) s)
        (signedResult (fn s.rom slot x))) :
    InverseTier i atan2 sqrt order := by
  refine fun s => ⟨fun k hout => ?_, fun hlo hhi => ?_, fun hlo hhi => ?_⟩
  · have hexec := hrun k s
    rwa [inverseK_outside hout, signedResult_zero] at hexec
  · have hexec := hrun .k64 s
    have hport : s.port.opa = signedResult (opA .k64 s) := by rw [signedResult_k64, opA_k64]
    rw [inverseK_k64 ((inUnit_iff _ _).2 ⟨hlo, hhi⟩)] at hexec
    rw [hport]
    exact ⟨_, _, rootOfComplement_complementRoot hsqrt s _, hatan2 s _, hexec⟩
  · have hexec := hrun .k32 s
    have hwide := hrun.yields_withPorts s (widenRaw (opA .k32 s)) 0
    rw [inverseK_k32 ((inUnit_iff _ _).2 ⟨hlo, hhi⟩)] at hexec
    rw [signedResult_k64, signedResult_k64] at hwide
    exact ⟨_, _, ConversionProofs.exec_widen s, hwide, hexec⟩

section
variable {i atan2 sqrt : Kernel → Instr} {slot : Slot}

/-- `ASIN`: the operand first, the root second (`45_trig.md` R253). -/
theorem asinTier_of_runsOnA (hrun : RunsOnA i slot asinK) (hatan2 : RunsOnAB atan2 slot atan2K)
    (hsqrt : RunsOnA sqrt slot sqrtApprox) : InverseTier i atan2 sqrt fun x t s => withPorts s x t :=
  inverseTier_of_runsOnA (fn := asin64) hrun hsqrt fun s x =>
    hatan2.yields_signedResult s x (complementRoot s.rom slot x)

/-- `ACOS`: the root first, the operand second (`45_trig.md` R253). -/
theorem acosTier_of_runsOnA (hrun : RunsOnA i slot acosK) (hatan2 : RunsOnAB atan2 slot atan2K)
    (hsqrt : RunsOnA sqrt slot sqrtApprox) : InverseTier i atan2 sqrt fun x t s => withPorts s t x :=
  inverseTier_of_runsOnA (fn := acos64) hrun hsqrt fun s x =>
    hatan2.yields_signedResult s (complementRoot s.rom slot x) x

end

/-! ## The obligations -/

/-- Settles O54, by the sine in its three slots. -/
theorem sinePipeline : Obligations.SinePipeline :=
  ⟨⟨rfl, rfl⟩, ⟨rfl, rfl⟩, ⟨rfl, rfl⟩, sinTier_of_runsOnA runsOnA_sinP, sinTier_of_runsOnA runsOnA_sinF,
    sinTier_of_runsOnA runsOnA_sinFF⟩

/-- Settles O55: the pipeline's angle is what `ADD` completes with. -/
theorem cosineIsSineOfTheShiftedAngle : Obligations.CosineIsSineOfTheShiftedAngle :=
  ⟨⟨rfl, rfl⟩, ⟨rfl, rfl⟩, ⟨rfl, rfl⟩, cosTier_of_runsOnA (fun _ _ => rfl) runsOnA_sinP,
    cosTier_of_runsOnA (fun _ _ => rfl) runsOnA_sinF, cosTier_of_runsOnA (fun _ _ => rfl) runsOnA_sinFF⟩

/-- Settles O56: both sines are of one reduced angle, and every divider gives 0 for the divisor 0. -/
theorem tangentIsTheQuotientOfTwoSines : Obligations.TangentIsTheQuotientOfTwoSines :=
  ⟨⟨rfl, rfl⟩, ⟨rfl, rfl⟩, ⟨rfl, rfl⟩, tanTier_of_runsOnA (slot := .p) (fun _ _ => rfl) fun _ _ => rfl,
    tanTier_of_runsOnA (slot := .f) (fun _ _ => rfl) fun _ _ => rfl,
    tanTier_of_runsOnA (slot := .ff) (fun _ _ => rfl) fun _ _ => rfl⟩

/-- Settles O57, by the two-argument arctangent in its three slots. -/
theorem atan2QuadrantReconstruction : Obligations.Atan2QuadrantReconstruction :=
  ⟨⟨rfl, rfl⟩, ⟨rfl, rfl⟩, ⟨rfl, rfl⟩, atan2Tier_of_runsOnAB runsOnAB_atan2P,
    atan2Tier_of_runsOnAB runsOnAB_atan2F, atan2Tier_of_runsOnAB runsOnAB_atan2FF⟩

/-- Settles O58: raw 1.0 on the second port is the primitive's second operand. -/
theorem arctangentIsAtan2WithOne : Obligations.ArctangentIsAtan2WithOne :=
  ⟨⟨rfl, rfl⟩, ⟨rfl, rfl⟩, ⟨rfl, rfl⟩, atanTier_of_runsOnA (fun _ _ => rfl) runsOnAB_atan2P,
    atanTier_of_runsOnA (fun _ _ => rfl) runsOnAB_atan2F, atanTier_of_runsOnA (fun _ _ => rfl) runsOnAB_atan2FF⟩

/-- Settles O59, by the two orders of the operands in the three slots. -/
theorem arcsineAndArccosineThroughAtan2 : Obligations.ArcsineAndArccosineThroughAtan2 :=
  ⟨⟨rfl, rfl⟩, ⟨rfl, rfl⟩, ⟨rfl, rfl⟩, ⟨rfl, rfl⟩, ⟨rfl, rfl⟩, ⟨rfl, rfl⟩,
    asinTier_of_runsOnA (fun _ _ => rfl) runsOnAB_atan2P runsOnA_sqrtP,
    asinTier_of_runsOnA (fun _ _ => rfl) runsOnAB_atan2F runsOnA_sqrtF,
    asinTier_of_runsOnA (fun _ _ => rfl) runsOnAB_atan2FF runsOnA_sqrtFF,
    acosTier_of_runsOnA (fun _ _ => rfl) runsOnAB_atan2P runsOnA_sqrtP,
    acosTier_of_runsOnA (fun _ _ => rfl) runsOnAB_atan2F runsOnA_sqrtF,
    acosTier_of_runsOnA (fun _ _ => rfl) runsOnAB_atan2FF runsOnA_sqrtFF⟩

end Sys2Proof.TrigProofs

/-! # Comparison, selection, interpolation and rounding (O38 to O41)

The order of the raw integers as the order of the values, the two exact ends of the interpolation, and the two
masks as the integral part and the fraction of the floor split (`46_compare_round.md` R260 to R273). -/

namespace Sys2Proof.CompareProofs

open Sys2Proof
open Sys2Proof.Machine
open Sys2Proof.Claims
open Sys2Proof.ArithmeticProofs
open Sys2Proof.ConversionProofs
open Sys2Proof.ExpLogProofs
open Sys2Proof.TrigProofs

/-! ## What the instructions complete with -/

theorem exec_cmpeq (k : Kernel) (s : State) :
    exec (.cmpeq k) s = .next (completed (truth (decide (opA k s = opB k s))) s) := rfl

theorem exec_cmpne (k : Kernel) (s : State) :
    exec (.cmpne k) s = .next (completed (truth (decide (opA k s ≠ opB k s))) s) := rfl

theorem exec_cmplt (k : Kernel) (s : State) :
    exec (.cmplt k) s = .next (completed (truth (decide ((opA k s).toInt < (opB k s).toInt))) s) := rfl

theorem exec_cmple (k : Kernel) (s : State) :
    exec (.cmple k) s = .next (completed (truth (decide ((opA k s).toInt ≤ (opB k s).toInt))) s) := rfl

theorem exec_cmpgt (k : Kernel) (s : State) :
    exec (.cmpgt k) s = .next (completed (truth (decide ((opA k s).toInt > (opB k s).toInt))) s) := rfl

theorem exec_cmpge (k : Kernel) (s : State) :
    exec (.cmpge k) s = .next (completed (truth (decide ((opA k s).toInt ≥ (opB k s).toInt))) s) := rfl

theorem exec_min (k : Kernel) (s : State) :
    exec (.min k) s = .next (completed (signedResult (minK k (opA k s) (opB k s))) s) := rfl

theorem exec_max (k : Kernel) (s : State) :
    exec (.max k) s = .next (completed (signedResult (maxK k (opA k s) (opB k s))) s) := rfl

theorem exec_clamp (k : Kernel) (s : State) :
    exec (.clamp k) s = .next (completed (signedResult (clampK k (opA k s) (opB k s) (opC k s))) s) := rfl

theorem exec_lerp (k : Kernel) (s : State) :
    exec (.lerp k) s = .next (completed (signedResult (lerpK k (opA k s) (opB k s) (opC k s))) s) := rfl

theorem exec_floor (k : Kernel) (s : State) :
    exec (.floor k) s = .next (completed (signedResult (opA k s &&& intMask k)) s) := rfl

theorem exec_ceil (k : Kernel) (s : State) :
    exec (.ceil k) s = .next (completed (signedResult ((opA k s + fracMask k) &&& intMask k)) s) := rfl

theorem exec_round (k : Kernel) (s : State) :
    exec (.round k) s = .next (completed (signedResult ((opA k s + halfRaw k) &&& intMask k)) s) := rfl

theorem exec_fract (k : Kernel) (s : State) :
    exec (.fract k) s = .next (completed (signedResult (opA k s &&& fracMask k)) s) := rfl

/-! ## The order of the values -/

/-- The raw integers are ordered as the values they stand for (`46_compare_round.md`, section 1). -/
theorem realValue_lt_iff {k : Kernel} (a b : Raw k) : realValue k a < realValue k b ↔ a.toInt < b.toInt := by
  rw [realValue, realValue, div_lt_div_iff_of_pos_right (by positivity), Int.cast_lt]

theorem realValue_eq_iff {k : Kernel} (a b : Raw k) : realValue k a = realValue k b ↔ a = b := by
  rw [realValue, realValue, div_left_inj' (by positivity), Int.cast_inj, BitVec.toInt_inj]

theorem truth_decide (p : Prop) [Decidable p] : truth (decide p) = if p then 1 else 0 := by
  simp [truth]

theorem truth_decide_not (p : Prop) [Decidable p] : truth (decide ¬ p) = if p then 0 else 1 := by
  by_cases h : p <;> simp [truth, h]

/-! ## Selection -/

theorem signedResult_eq_ofInt_toInt {n : Nat} (v : BitVec n) : signedResult v = BitVec.ofInt 64 v.toInt := rfl

theorem toInt_minK (k : Kernel) (a b : Raw k) : (minK k a b).toInt = min a.toInt b.toInt := by
  rw [minK]
  split <;> omega

theorem toInt_maxK (k : Kernel) (a b : Raw k) : (maxK k a b).toInt = max a.toInt b.toInt := by
  rw [maxK]
  split <;> omega

/-- The upper bound is tested first, so it wins over an inverted lower bound (`46_compare_round.md` R268). -/
theorem toInt_clampK (k : Kernel) (v lo hi : Raw k) :
    (clampK k v lo hi).toInt = if hi.toInt < v.toInt then hi.toInt else max v.toInt lo.toInt := by
  rw [clampK]
  split_ifs <;> omega

theorem toInt_clampK_of_le {k : Kernel} (v : Raw k) {lo hi : Raw k} (h : lo.toInt ≤ hi.toInt) :
    (clampK k v lo hi).toInt = min (max v.toInt lo.toInt) hi.toInt := by
  rw [toInt_clampK]
  split <;> omega

theorem toInt_clampK_of_lt {k : Kernel} (v : Raw k) {lo hi : Raw k} (h : hi.toInt < lo.toInt) :
    (clampK k v lo hi).toInt = if hi.toInt < v.toInt then hi.toInt else lo.toInt := by
  rw [toInt_clampK]
  split <;> omega

/-! ## Interpolation -/

theorem toInt_oneRaw (k : Kernel) : (oneRaw k).toInt = 2 ^ k.frac := by cases k <;> rfl

theorem mulK_zero_right (k : Kernel) (a : Raw k) : mulK k a 0 = 0 := by simp [mulK]

theorem mulK_oneRaw (k : Kernel) (a : Raw k) : mulK k a (oneRaw k) = a := by
  rw [mulK, toInt_oneRaw, Int.mul_ediv_cancel _ (by positivity), BitVec.ofInt_toInt]

theorem lerpK_zero (k : Kernel) (a b : Raw k) : lerpK k a b 0 = a := by
  rw [lerpK, subK_eq, sub_zero, mulK_oneRaw, mulK_zero_right, addK_eq, add_zero]

theorem lerpK_oneRaw (k : Kernel) (a b : Raw k) : lerpK k a b (oneRaw k) = b := by
  rw [lerpK, subK_eq, sub_self, mulK_zero_right, mulK_oneRaw, addK_eq, zero_add]

/-- `SUB` of a port from raw 1.0 on the first port. -/
theorem yields_sub_from_one (k : Kernel) (s : State) :
    Yields (.sub k) (withPorts s (BitVec.ofNat 64 (2 ^ k.frac)) s.port.opc)
      (signedResult (subK k (oneRaw k) (opC k s))) := by
  rw [← signedResult_oneRaw, Yields, exec_sub, opA_withPorts_signedResult]
  rfl

/-! ## The two masks -/

theorem intMask_eq_not (k : Kernel) : intMask k = ~~~fracMask k := by cases k <;> rfl

/-- The two masks split a pattern. -/
theorem and_intMask_eq_sub {k : Kernel} (v : Raw k) : v &&& intMask k = v - (v &&& fracMask k) := by
  have hdisjoint : (v &&& ~~~fracMask k) &&& (v &&& fracMask k) = 0 := by
    rw [show (v &&& ~~~fracMask k) &&& (v &&& fracMask k) = (v &&& v) &&& (~~~fracMask k &&& fracMask k) by ac_rfl,
      BitVec.not_and_self]
    exact BitVec.and_zero
  have hunion : (v &&& ~~~fracMask k) ||| (v &&& fracMask k) = v := by
    rw [← BitVec.and_or_distrib_left, BitVec.or_comm, BitVec.or_not_self, BitVec.and_allOnes]
  rw [intMask_eq_not, eq_comm, BitVec.sub_eq_iff_eq_add, BitVec.add_eq_or_of_and_eq_zero _ _ hdisjoint, hunion]

/-- The fraction bits are the remainder of the floor split, of a negative value too
(`46_compare_round.md` R273). -/
theorem toInt_and_fracMask {k : Kernel} (v : Raw k) :
    (v &&& fracMask k).toInt = v.toInt - v.toInt / 2 ^ k.frac * 2 ^ k.frac := by
  have hlt : (v &&& fracMask k).toNat < 2 ^ k.frac := by
    rw [toNat_and_fracMask]
    exact Nat.mod_lt _ (Nat.two_pow_pos _)
  have hsmall : 2 * (v &&& fracMask k).toNat < 2 ^ k.width := by
    cases k <;> simp only [Kernel.frac, Kernel.width] at hlt ⊢ <;> omega
  rw [BitVec.toInt_eq_toNat_of_lt hsmall, toNat_and_fracMask, ← toInt_emod_frac, Int.emod_def, Int.mul_comm]

/-- Clearing the fraction bits rounds toward minus infinity (`46_compare_round.md` R270). -/
theorem toInt_and_intMask {k : Kernel} (v : Raw k) :
    (v &&& intMask k).toInt = v.toInt / 2 ^ k.frac * 2 ^ k.frac := by
  have hlo := BitVec.le_toInt v
  have hhi := BitVec.toInt_lt (x := v)
  rw [and_intMask_eq_sub, BitVec.toInt_sub, toInt_and_fracMask, Int.sub_sub_self]
  apply Int.bmod_eq_of_le_mul_two <;> cases k <;> simp only [Kernel.width, Kernel.frac] at * <;> omega

/-- An addend below one unit, added before the fraction bits are cleared: past the top of the range the sum
wraps, and clearing leaves the least value (`46_compare_round.md` R271, R272). -/
theorem toInt_add_and_intMask (k : Kernel) (v c : Raw k) (h0 : 0 ≤ c.toInt) (hone : c.toInt < 2 ^ k.frac) :
    ((v + c) &&& intMask k).toInt =
      if v.toInt ≤ 2 ^ (k.width - 1) - 1 - c.toInt then (v.toInt + c.toInt) / 2 ^ k.frac * 2 ^ k.frac
      else -(2 ^ (k.width - 1) - 1) - 1 := by
  have hhi := BitVec.toInt_lt (x := v)
  rw [toInt_and_intMask, toInt_add_of_nonneg k v h0]
  split
  · rfl
  · cases k <;> simp only [Kernel.width, Kernel.frac] at * <;> omega

/-! ## The obligations -/

/-- Settles O38: the comparison of the raw integers is the comparison of the values. -/
theorem comparisonsFollowSignedOrder : Obligations.ComparisonsFollowSignedOrder := by
  refine ⟨⟨rfl, rfl⟩, ⟨rfl, rfl⟩, ⟨rfl, rfl⟩, ⟨rfl, rfl⟩, ⟨rfl, rfl⟩, ⟨rfl, rfl⟩, fun k s => ?_⟩
  simp only [realValue_eq_iff, realValue_lt_iff]
  refine ⟨?_, ?_, ?_, ?_, ?_, ?_⟩
  · rw [exec_cmpeq, truth_decide]
  · rw [exec_cmpne, truth_decide_not]
  · rw [exec_cmplt, truth_decide]
  · simp only [exec_cmple, ← not_lt, truth_decide_not]
  · simp only [exec_cmpgt, truth_decide, gt_iff_lt]
  · simp only [exec_cmpge, ge_iff_le, ← not_lt, truth_decide_not]

/-- Settles O39, by the signed values of the selected operands. -/
theorem minMaxClampSelect : Obligations.MinMaxClampSelect := by
  refine ⟨⟨rfl, rfl⟩, ⟨rfl, rfl⟩, ⟨rfl, rfl⟩, fun k s => ⟨?_, ?_, fun hle => ?_, fun hlt => ?_⟩⟩
  · rw [exec_min, signedResult_eq_ofInt_toInt, toInt_minK]
  · rw [exec_max, signedResult_eq_ofInt_toInt, toInt_maxK]
  · rw [exec_clamp, signedResult_eq_ofInt_toInt, toInt_clampK_of_le _ hle]
  · rw [exec_clamp, signedResult_eq_ofInt_toInt, toInt_clampK_of_lt _ hlt]

/-- Settles O40: the helper is the composition of the four operations, and at either end one product is 0 and
the other its first factor. -/
theorem lerpIsAComposition : Obligations.LerpIsAComposition := by
  refine ⟨⟨rfl, rfl⟩, fun k s => ⟨?_, fun hzero => ?_, fun hone => ?_⟩⟩
  · have hadd := yields_add s (signedResult (mulK k (opA k s) (subK k (oneRaw k) (opC k s))))
      (mulK k (opB k s) (opC k s))
    rw [signedResult_setWidth] at hadd
    exact ⟨_, _, _, _, yields_sub_from_one k s, yields_mul s _ _, exec_mul k _, hadd, exec_lerp k s⟩
  · rw [exec_lerp, hzero, lerpK_zero, signedResult_eq]
  · have hc : opC k s = oneRaw k := BitVec.toInt_inj.1 (hone.trans (toInt_oneRaw k).symm)
    rw [exec_lerp, hc, lerpK_oneRaw, signedResult_eq]

/-- Settles O41: `FLOOR` and `FRACT` are the two parts of the floor split, `CEIL` and `ROUND` the floor of a
sum that may wrap. -/
theorem roundingToIntegralValues : Obligations.RoundingToIntegralValues := by
  refine ⟨⟨rfl, rfl⟩, ⟨rfl, rfl⟩, ⟨rfl, rfl⟩, ⟨rfl, rfl⟩, fun k s => ⟨?_, ?_, ?_, ?_⟩⟩
  · rw [exec_floor, signedResult_eq_ofInt_toInt, toInt_and_intMask, floor_realValue]
  · have hmask := toInt_fracMask k
    have hone : (1 : Int) ≤ 2 ^ k.frac := one_le_pow₀ (by decide)
    rw [exec_ceil, signedResult_eq_ofInt_toInt, toInt_add_and_intMask k _ _ (by omega) (by omega), hmask,
      ceil_realValue]
  · have hhalf := toInt_halfRaw k
    have hlt : (2 : Int) ^ (k.frac - 1) < 2 ^ k.frac := by cases k <;> decide
    have hpos : (0 : Int) ≤ 2 ^ (k.frac - 1) := by positivity
    rw [exec_round, signedResult_eq_ofInt_toInt, toInt_add_and_intMask k _ _ (by omega) (by omega), hhalf,
      floor_realValue_add_half]
  · rw [exec_fract, signedResult_eq_ofInt_toInt, toInt_and_fracMask, floor_realValue]

end Sys2Proof.CompareProofs

/-! # Taking commands, the halt after a fault, and the domain policy (O5, O7, O16, O60)

A running unit executes, a halted one answers with its latch (`60_exceptions.md` R304, R305); the lines of R314 are
the zero cases of the statements about the instructions they name. -/

namespace Sys2Proof.ExceptionProofs

open Sys2Proof
open Sys2Proof.Machine
open Sys2Proof.Claims
open Sys2Proof.RunProofs

/-! ## One command -/

/-- Settles O5: a step on a command executes the command on the state that has accepted it. -/
theorem stepRunsDecodedInstruction : Obligations.StepRunsDecodedInstruction := by
  intro s c rest i hrun hhost hdec
  rw [step_command hhost]
  exact execCommand_legal (s := accept c rest s) hrun hdec

/-- The halted response is all a halted unit makes of a command (`60_exceptions.md` R304). -/
theorem step_halted {s : State} {c : Command} {rest : List HostEvent} (hhalt : s.flt ≠ .none)
    (hhost : s.host = .command c :: rest) :
    step s = .next (deliver { flt := s.flt, res := 0 } (accept c rest s)) := by
  rw [step_command hhost]
  exact execCommand_halted (s := accept c rest s) hhalt

/-- Settles O7, by the halted response. -/
theorem haltedUnitAnswersWithItsLatch : Obligations.HaltedUnitAnswersWithItsLatch :=
  fun _ _ _ hhalt hhost => step_halted hhalt hhost

/-! ## From the fault to the reset -/

/-- A command that leaves a running unit halted has done nothing but latch its fault (`60_exceptions.md` R304). -/
theorem eq_latchFault_of_step {s t : State} {c : Command} {rest : List HostEvent} (hrun : s.flt = .none)
    (hhost : s.host = .command c :: rest) (hstep : step s = .next t) (hhalt : t.flt ≠ .none) :
    t = latchFault t.flt (accept c rest s) := by
  rw [step_command hhost] at hstep
  obtain ⟨hhalted, -⟩ | ⟨-, v, hexec⟩ | ⟨-, f, -, hexec⟩ := execCommand_cases (accept c rest s)
  case inl => exact absurd hrun hhalted
  case inr.inl =>
    obtain rfl := Host.Outcome.next.inj (hexec.symm.trans hstep)
    exact absurd hrun hhalt
  case inr.inr =>
    obtain rfl := Host.Outcome.next.inj (hexec.symm.trans hstep)
    rfl

/-- A halted unit stays halted along any number of commands, by induction on their list: each adds one halted
response and changes neither the latch nor the ROM. -/
theorem run_halted (later : List Command) (rest : List HostEvent) (s : State) (hhalt : s.flt ≠ .none)
    (hhost : s.host = later.map .command ++ rest) :
    ∃ u : State, Host.Core.run Sys2Proof.core later.length s = .next u ∧
      u.flt = s.flt ∧ u.rom = s.rom ∧ u.host = rest ∧
      u.responses = s.responses ++ List.replicate later.length { flt := s.flt, res := 0 } := by
  induction later generalizing s with
  | nil => exact ⟨s, run_zero s, rfl, rfl, hhost, (List.append_nil _).symm⟩
  | cons c later ih =>
    obtain ⟨u, hrun, hflt, hrom, hrest, hresp⟩ :=
      ih (deliver { flt := s.flt, res := 0 } (accept c (later.map .command ++ rest) s)) hhalt rfl
    refine ⟨u, (run_succ (step_halted hhalt hhost) _).trans hrun, hflt, hrom, hrest, ?_⟩
    rw [hresp, deliver_responses, List.append_assoc]
    rfl

/-- Settles O16: the faulting command latches its code, and the run that follows is the run of a halted unit. -/
theorem faultHaltsUntilReset : Obligations.FaultHaltsUntilReset := by
  intro s t c later rest hrun hhost hstep hhalt
  have ht := eq_latchFault_of_step hrun hhost hstep hhalt
  have hlater : t.host = later.map .command ++ rest := congrArg State.host ht
  obtain ⟨u, hu, hflt, hrom, hrest, hresp⟩ := run_halted later rest t hhalt hlater
  exact ⟨congrArg State.responses ht, u, hu, hflt, hrom.trans (step_rom hstep), hrest, hresp⟩

/-! ## The domain policy

For each line of `60_exceptions.md` R314: where its condition holds of the unit, the instructions it names complete
with 0. -/

/-- Where the condition holds, the instruction completes with 0, in either kernel. -/
def ZeroWhere (outside : Kernel → State → Prop) (i : Kernel → Instr) : Prop :=
  ∀ k s, outside k s → Yields (i k) s 0

/-- A statement about an instruction whose first clause is its screen gives the line of the policy. -/
theorem zeroWhere_of_screen {outside rest : Kernel → State → Prop} {i : Kernel → Instr}
    (h : ∀ k s, (outside k s → Yields (i k) s 0) ∧ rest k s) : ZeroWhere outside i :=
  fun k s => (h k s).1

/-- The screen of division and reciprocal, as R314 states it: 0 or the least value. -/
def ZeroOrLeast {k : Kernel} (v : Raw k) : Prop := v.toInt = 0 ∨ v.toInt = -(2 ^ (k.width - 1))

theorem ZeroOrLeast.eq_zero_or {k : Kernel} {v : Raw k} (h : ZeroOrLeast v) :
    v = 0 ∨ v.toInt = -(2 ^ (k.width - 1)) :=
  h.imp_left DivRootProofs.eq_zero_of_toInt_eq_zero

theorem zeroWhere_of_divTier {i : Kernel → Instr} {slot : Slot} (h : DivTier i slot) :
    ZeroWhere (fun k s => ZeroOrLeast (opB k s)) i :=
  fun k s hbad => (h k s).1 hbad.eq_zero_or

theorem zeroWhere_div :
    ∀ i ∈ [Instr.divX, Instr.divF, Instr.divFF], ZeroWhere (fun k s => ZeroOrLeast (opB k s)) i := by
  obtain ⟨-, hx⟩ := DivRootProofs.exactDivisionTruncatesWrapsOrSaturates
  obtain ⟨-, -, hf, hff⟩ := DivRootProofs.approximateDivisionPipeline
  exact List.forall_iff_forall_mem.1 ⟨zeroWhere_of_screen hx, zeroWhere_of_divTier hf, zeroWhere_of_divTier hff⟩

theorem zeroWhere_mod : ZeroWhere (fun k s => (opB k s).toInt = 0) .mod := by
  obtain ⟨-, h⟩ := ArithmeticProofs.modIsTheTruncatedRemainder
  exact zeroWhere_of_screen h

theorem zeroWhere_ratio : ZeroWhere (fun _ s => wordB s = 0) .ratio := by
  obtain ⟨-, -, -, -, h⟩ := ConversionProofs.ratioTruncatesOneDivision
  exact zeroWhere_of_screen h

theorem zeroWhere_of_rcpTier {i : Kernel → Instr} {slot : Slot} (h : RcpTier i slot) :
    ZeroWhere (fun k s => ZeroOrLeast (opA k s)) i :=
  fun k s hbad => (h k s).1 hbad.eq_zero_or

theorem zeroWhere_rcp :
    ∀ i ∈ [Instr.rcpP, Instr.rcpF, Instr.rcpFF], ZeroWhere (fun k s => ZeroOrLeast (opA k s)) i := by
  obtain ⟨-, -, -, hp, hf, hff⟩ := DivRootProofs.reciprocalPipeline
  exact List.forall_iff_forall_mem.1 ⟨zeroWhere_of_rcpTier hp, zeroWhere_of_rcpTier hf, zeroWhere_of_rcpTier hff⟩

/-- The domain of the roots and the logarithms is the positive values. -/
def NotPositiveA (k : Kernel) (s : State) : Prop := (opA k s).toInt ≤ 0

theorem zeroWhere_root :
    ∀ i ∈ [Instr.sqrtX, Instr.sqrtP, Instr.sqrtF, Instr.sqrtFF, Instr.rsqrtP, Instr.rsqrtF, Instr.rsqrtFF],
      ZeroWhere NotPositiveA i := by
  obtain ⟨-, hx⟩ := DivRootProofs.exactSquareRootIsTheFloor
  obtain ⟨-, -, -, hp, hf, hff⟩ := DivRootProofs.approximateSquareRootPipeline
  obtain ⟨-, -, -, hrp, hrf, hrff⟩ := DivRootProofs.reciprocalSquareRootPipeline
  exact List.forall_iff_forall_mem.1 ⟨zeroWhere_of_screen hx, zeroWhere_of_screen hp, zeroWhere_of_screen hf,
    zeroWhere_of_screen hff, zeroWhere_of_screen hrp, zeroWhere_of_screen hrf, zeroWhere_of_screen hrff⟩

theorem zeroWhere_log :
    ∀ i ∈ [Instr.log2P, Instr.log2F, Instr.log2FF, Instr.logP, Instr.logF, Instr.logFF],
      ZeroWhere NotPositiveA i := by
  obtain ⟨-, -, -, -, -, -, h2p, h2f, h2ff, hp, hf, hff⟩ := ExpLogProofs.logarithmPipelines
  exact List.forall_iff_forall_mem.1 ⟨zeroWhere_of_screen h2p, zeroWhere_of_screen h2f,
    zeroWhere_of_screen h2ff, zeroWhere_of_screen hp, zeroWhere_of_screen hf, zeroWhere_of_screen hff⟩

/-- A base that is not positive, with an exponent other than 0: the exponent 0 gives `one` first. -/
def BadPower (k : Kernel) (s : State) : Prop := (opA k s).toInt ≤ 0 ∧ (opB k s).toInt ≠ 0

theorem zeroWhere_of_powTier {i exp log : Kernel → Instr} (h : PowTier i exp log) : ZeroWhere BadPower i := by
  rintro k s ⟨hbase, hexponent⟩
  obtain ⟨-, hzero, -⟩ := h k s
  exact hzero (fun hp => hexponent (by rw [hp]; exact BitVec.toInt_zero)) hbase

theorem zeroWhere_pow : ∀ i ∈ [Instr.powP, Instr.powF, Instr.powFF], ZeroWhere BadPower i := by
  obtain ⟨-, -, -, hp, hf, hff⟩ := ExpLogProofs.powerIsExpOfLog
  exact List.forall_iff_forall_mem.1 ⟨zeroWhere_of_powTier hp, zeroWhere_of_powTier hf, zeroWhere_of_powTier hff⟩

/-- Outside `[-1, 1]`, the domain of the inverse sine and cosine. -/
def OutsideUnit (k : Kernel) (s : State) : Prop := (opA k s).toInt < -(2 ^ k.frac) ∨ 2 ^ k.frac < (opA k s).toInt

theorem zeroWhere_of_inverseTier {i atan2 sqrt : Kernel → Instr} {order : Port → Port → State → State}
    (h : InverseTier i atan2 sqrt order) : ZeroWhere OutsideUnit i :=
  fun k s => (h s).1 k

theorem zeroWhere_inverse :
    ∀ i ∈ [Instr.asinP, Instr.asinF, Instr.asinFF, Instr.acosP, Instr.acosF, Instr.acosFF],
      ZeroWhere OutsideUnit i := by
  obtain ⟨-, -, -, -, -, -, hsp, hsf, hsff, hcp, hcf, hcff⟩ := TrigProofs.arcsineAndArccosineThroughAtan2
  exact List.forall_iff_forall_mem.1 ⟨zeroWhere_of_inverseTier hsp, zeroWhere_of_inverseTier hsf,
    zeroWhere_of_inverseTier hsff, zeroWhere_of_inverseTier hcp, zeroWhere_of_inverseTier hcf,
    zeroWhere_of_inverseTier hcff⟩

/-! ## The tangent

The statement about `TAN` names a cosine that exists; the policy speaks of any value that is the cosine. They are one,
because an angle has one sine. -/

theorem sineAt_unique {rom : CoefRom} {k : Kernel} {slot : Slot} {z : Word} {v w : Raw k}
    (hv : sineAt rom k slot z v) (hw : sineAt rom k slot z w) : v = w := by
  obtain ⟨m, -, -, hmin, hmout, rfl⟩ := hv
  obtain ⟨n, -, -, hnin, hnout, rfl⟩ := hw
  have hmirror : m = n := by
    by_cases hin : -(2 ^ 30) ≤ z.toInt ∧ z.toInt < 2 ^ 30
    · obtain ⟨hlo, hhi⟩ := hin
      rw [hmin hlo hhi, hnin hlo hhi]
    · have hout : z.toInt < -(2 ^ 30) ∨ 2 ^ 30 ≤ z.toInt := by omega
      rw [hmout hout, hnout hout]
  rw [hmirror]

/-- The cosine the tangent computes, in a slot, is 0 (`45_trig.md` R240). -/
def ZeroCosine (slot : Slot) (k : Kernel) (s : State) : Prop :=
  sineAt s.rom k slot (quarterTurns k (opA k s) + 0x40000000#32) 0

theorem zeroWhere_of_tanTier {i div : Kernel → Instr} {slot : Slot} (h : TanTier i div slot) :
    ZeroWhere (ZeroCosine slot) i := by
  intro k s hcosine
  obtain ⟨sn, cs, -, hcs, -, hzero⟩ := h k s
  exact hzero (sineAt_unique hcs hcosine)

theorem zeroWhere_tan :
    ∀ p ∈ [(Instr.tanP, Slot.p), (Instr.tanF, Slot.f), (Instr.tanFF, Slot.ff)],
      ZeroWhere (ZeroCosine p.2) p.1 := by
  obtain ⟨-, -, -, hp, hf, hff⟩ := TrigProofs.tangentIsTheQuotientOfTwoSines
  exact List.forall_iff_forall_mem.1 ⟨zeroWhere_of_tanTier hp, zeroWhere_of_tanTier hf, zeroWhere_of_tanTier hff⟩

/-- Settles O60, line by line of the list: each is the zero case of its instructions. -/
theorem invalidDomainsMapToZero : Obligations.InvalidDomainsMapToZero := by
  intro k s i a b least hline
  rcases hline with ⟨hi, hb⟩ | ⟨rfl, hb⟩ | ⟨rfl, hb⟩ | ⟨hi, ha⟩ | ⟨hi, ha⟩ | ⟨hi, ha⟩ | ⟨hi, hab⟩ | ⟨hi, ha⟩ |
    ⟨slot, hi, hcosine⟩
  · exact zeroWhere_div i hi k s hb
  · exact zeroWhere_mod k s hb
  · exact zeroWhere_ratio k s hb
  · exact zeroWhere_rcp i hi k s ha
  · exact zeroWhere_root i hi k s ha
  · exact zeroWhere_log i hi k s ha
  · exact zeroWhere_pow i hi k s hab
  · exact zeroWhere_inverse i hi k s ha
  · exact zeroWhere_tan (i, slot) hi k s hcosine

end Sys2Proof.ExceptionProofs

/-! # Reset, the idle unit and the state after reset (O8, O9)

Reset clears the latch and takes its event; a running unit that has delivered nothing and holds a legal ROM meets the
invariant, and the unit after reset is one (`70_reset_and_hazards.md` R330, R336, `10_state.md` R31). -/

namespace Sys2Proof.ResetProofs

open Sys2Proof
open Sys2Proof.Machine

/-! ## The reset event -/

/-- The whole effect of reset (`70_reset_and_hazards.md` R330): the commands in flight, which are no argument of it,
leave no trace. -/
theorem applyReset_eq (rest : List HostEvent) (s : State) :
    applyReset rest s = { s with flt := .none, host := rest } := rfl

/-- Settles O8, by the rules of the two steps that take no command: a reset event, and nothing presented. -/
theorem resetClearsTheLatchAndIdleKeepsIt : Obligations.ResetClearsTheLatchAndIdleKeepsIt := by
  intro s
  refine ⟨fun lost rest hreset => ?_, fun hidle => step_idle hidle⟩
  rw [step_reset hreset, applyReset_eq]

/-! ## The state after reset -/

/-- A running unit has no latch to report. -/
theorem latchReported_of_running {s : State} (hrun : s.running) : s.latchReported :=
  fun hhalted => absurd hrun hhalted

/-- The base of the invariant: with an empty history only the ROM is left to check. -/
theorem inv_of_nothing_delivered {s : State} (hrom : romWf s.rom = true) (hrun : s.running)
    (hempty : s.responses = []) : s.Inv := by
  refine ⟨hrom, fun r hr => ?_, latchReported_of_running hrun⟩
  rw [hempty] at hr
  exact absurd hr List.not_mem_nil

/-- Settles O9: the configured ROM is legal whatever its free values are, and nothing has been delivered. -/
theorem resetStateMeetsInvariant : Obligations.ResetStateMeetsInvariant :=
  ⟨reset_flt, inv_of_nothing_delivered configRom_legal reset_flt reset_responses⟩

end Sys2Proof.ResetProofs
